-- ==== Sys2Proof/Word.lean ====
section
/-!
DEFINITION. The words of the block: bytes, the fields of a request, signed 8-bit integers, and four-lane tuples
(spec/00_scope.md rules R5, R7, R9; spec/30_encoding.md rule R35).
-/

namespace Sys2Proof

/-- The unit of addressing of the request buffer, 8 bits (`BYTE_W`, rules R5, R20). -/
abbrev Byte := BitVec 8

/-- The length field of a request, `LEN_W` = 3 bits (rules R5, R39). -/
abbrev Len := BitVec 3

/-- The 32-bit carrier of the four bytes, `req_data` (rules R24, R34). -/
abbrev ReqData := BitVec 32

/-- A whole request `REQ`, 35 bits (rule R35). -/
abbrev ReqWord := BitVec 35

/-- The three request ports side by side, `req_valid` highest: everything the block's outputs may depend on. -/
abbrev InputWires := BitVec 36

/-- A signed 8-bit integer, "two's-complement integer in range [−128, 127]" (rule R9). The bound is part of the value,
so a lane cannot be given any other dividend (rule R66). -/
abbrev SInt8 := { n : Int // -128 ≤ n ∧ n ≤ 127 }

/-- One value for each of the four lanes, in the fixed order earth, air, water, fire (rules R5, R21). -/
structure Lanes (α : Type) where
  /-- Lane 0, buffer offset 0. -/
  earth : α
  /-- Lane 1, buffer offset 1. -/
  air : α
  /-- Lane 2, buffer offset 2. -/
  water : α
  /-- Lane 3, buffer offset 3. -/
  fire : α
deriving DecidableEq, Repr

/-- Lane `i`, `0 ≤ i ≤ 3`. -/
def Lanes.get {α : Type} (x : Lanes α) : Fin 4 → α
  | 0 => x.earth
  | 1 => x.air
  | 2 => x.water
  | 3 => x.fire

/-- The same operation in each of the four lanes. -/
def Lanes.map {α β : Type} (f : α → β) (x : Lanes α) : Lanes β :=
  ⟨f x.earth, f x.air, f x.water, f x.fire⟩

end Sys2Proof
end

