-- ==== Sys2Proof/Config.lean ====
section
/-!
DEFINITION. The parameters of the block (spec/00_scope.md rule R5) and the free values
(spec/30_encoding.md rule R38; spec/93_implementation_defined.md U6, U7).
-/

namespace Sys2Proof

/-- The result format `FMT`, the block's one configuration argument (rule R5): `b64` is IEEE 754 binary64, the normative
value; `b32` is IEEE 754 binary32, the optional second value. -/
inductive Fmt where
  | b64
  | b32
deriving DecidableEq, Repr

/-- `FLEN`: bits in one result (rule R5). -/
@[reducible] def Fmt.flen : Fmt → Nat
  | .b64 => 64
  | .b32 => 32

/-- `P`: significand precision in bits, hidden bit included (rule R5). -/
@[reducible] def Fmt.prec : Fmt → Nat
  | .b64 => 53
  | .b32 => 24

/-- `EW`: width of the exponent field (rule R5). -/
@[reducible] def Fmt.expWidth : Fmt → Nat
  | .b64 => 11
  | .b32 => 8

/-- `BIAS`: exponent bias (rule R5). -/
@[reducible] def Fmt.bias : Fmt → Nat
  | .b64 => 1023
  | .b32 => 127

/-- The build that `Sys2Proof.core` is: "`B64` … is the normative value" (rule R5; notes/assumptions/5.md). The other
build is `Sys2Proof.Machine.stepOf Fmt.b32`. -/
def Config.fmt : Fmt := .b64

/-- `BUF_LEN`: the only buffer length that is answered with results (rule R5). -/
@[reducible] def Config.bufLen : Nat := 4

/-- `DIVISOR`: the real number 127 (rules R5, R54). -/
@[reducible] def Config.divisor : Nat := 127

/-- What `resp_status` carries where rule R38 leaves it unspecified. Free: no body, nothing can evaluate it. It is
applied to the draw's number and to the input wires, so that it may differ from instant to instant and from request to
request (notes/assumptions/3.md). -/
opaque Config.freeStatus : Nat → InputWires → BitVec 2

/-- What the 256 wires of `resp_data` carry in a `B64` build where rule R38 leaves them unspecified. Free, as
`Config.freeStatus` is. -/
opaque Config.freeData256 : Nat → InputWires → BitVec 256

/-- What the 128 wires of `resp_data` carry in a `B32` build where rule R38 leaves them unspecified. Free, as
`Config.freeStatus` is. -/
opaque Config.freeData128 : Nat → InputWires → BitVec 128

end Sys2Proof
end

