-- ==== Sys2Proof/Machine/Format.lean ====
section
/-!
DEFINITION. The result formats: fields of an encoding, putting one together, and the real number it stands for
(spec/30_encoding.md rule R40).
-/

namespace Sys2Proof.Machine

/-- The `sign` field: the top bit (rule R40). -/
def signField (fmt : Fmt) (w : BitVec fmt.flen) : Nat := w.toNat / 2 ^ (fmt.flen - 1)

/-- The `exp` field: `EW` bits above the fraction (rule R40). -/
def expField (fmt : Fmt) (w : BitVec fmt.flen) : Nat := w.toNat / 2 ^ (fmt.prec - 1) % 2 ^ fmt.expWidth

/-- The `frac` field: the `P - 1` low bits (rule R40). -/
def fracField (fmt : Fmt) (w : BitVec fmt.flen) : Nat := w.toNat % 2 ^ (fmt.prec - 1)

/-- `{sign, exp, frac}`: 1, `EW` and `P - 1` bits (rules R40, R58). -/
def assemble (fmt : Fmt) (sign exp frac : Nat) : BitVec fmt.flen :=
  BitVec.ofNat fmt.flen (sign * 2 ^ (fmt.flen - 1) + exp * 2 ^ (fmt.prec - 1) + frac)

/-- The encoding of +0: all bits zero (rules R40, R60). -/
def plusZero (fmt : Fmt) : BitVec fmt.flen := BitVec.ofNat fmt.flen 0

/-- The encoding is a normal number, `1 ≤ exp ≤ 2^EW - 2` (rule R40). -/
def isNormal (fmt : Fmt) (w : BitVec fmt.flen) : Bool :=
  decide (1 ≤ expField fmt w) && decide (expField fmt w ≤ 2 ^ fmt.expWidth - 2)

/-- The encodings to which rule R40 gives a value: +0 and the normal numbers. -/
def hasValue (fmt : Fmt) (w : BitVec fmt.flen) : Bool := w == plusZero fmt || isNormal fmt w

/-- The value of an encoding that rule R40 gives one: +0 is 0, a normal number is
`(-1)^sign * 2^(exp - BIAS) * (1 + frac / 2^(P-1))`. No step computes with it; it says what an encoding means. -/
def valueOf (fmt : Fmt) (w : BitVec fmt.flen) : ℚ :=
  if w = plusZero fmt then 0
  else (-1) ^ signField fmt w * 2 ^ ((expField fmt w : ℤ) - (fmt.bias : ℤ)) *
    (1 + (fracField fmt w : ℚ) / 2 ^ (fmt.prec - 1))

end Sys2Proof.Machine
end

