-- ==== Sys2Proof/Machine/Fdiv127.lean ====
section
/-!
DEFINITION. One lane of fp_divider: I8TOFP, the exact conversion, and FDIV127, the division by 127.0 rounded once to
nearest (spec/41_fdiv127.md rules R53 to R58).
-/

namespace Sys2Proof.Machine

/-- The place of the leading 1 of `a`, for `1 ≤ a ≤ 128`: the unbiased exponent of the integer `a`. -/
def topBit (a : Nat) : Nat :=
  if a < 2 then 0 else if a < 4 then 1 else if a < 8 then 2 else if a < 16 then 3
  else if a < 32 then 4 else if a < 64 then 5 else if a < 128 then 6 else 7

/-- The encoding in the format of the integer `n` itself (rule R55): exact, since `|n|` needs at most 8 significant bits;
0 is +0. -/
def i8tofpBits (fmt : Fmt) (n : SInt8) : BitVec fmt.flen :=
  if n.val = 0 then plusZero fmt
  else
    let a := n.val.natAbs
    assemble fmt (if n.val < 0 then 1 else 0) (topBit a + fmt.bias)
      (a * 2 ^ (fmt.prec - 1 - topBit a) - 2 ^ (fmt.prec - 1))

/-- A dividend of FDIV127: "one of the 256 values −128.0 .. 127.0 with integer value" (rule R56), held in the format. No
other floating-point dividend can be built: a general one is refused, not extrapolated (rule R66). -/
structure Dividend (fmt : Fmt) where
  /-- The real number it is, an integer. -/
  value : SInt8
  /-- Its encoding, an intermediate value that no port shows. -/
  bits : BitVec fmt.flen
  /-- It is the encoding of that integer. -/
  exact : bits = i8tofpBits fmt value

/-- I8TOFP (rule R55): the value of format `fmt` equal to `n`. -/
def i8tofp (fmt : Fmt) (n : SInt8) : Dividend fmt := ⟨n, i8tofpBits fmt n, rfl⟩

/-- `e`, the exponent of the quotient `a / 127` for `1 ≤ a ≤ 128`: `127 * 2^e ≤ a < 127 * 2^(e+1)` (the table of
rule R58). -/
def quotientExp (a : Nat) : Int :=
  if a ≤ 1 then -7 else if a ≤ 3 then -6 else if a ≤ 7 then -5 else if a ≤ 15 then -4
  else if a ≤ 31 then -3 else if a ≤ 63 then -2 else if a ≤ 126 then -1 else 0

/-- `N = a * 2^(P - 1 - e)` (rule R58). -/
def scaledDividend (fmt : Fmt) (a : Nat) : Nat :=
  a * 2 ^ ((fmt.prec : Int) - 1 - quotientExp a).toNat

/-- `q = N div 127`, one more where the remainder `r = N mod 127` has `2 * r > 127` (rule R58): the `P`-bit significand,
rounded to nearest. -/
def roundedQuotient (fmt : Fmt) (a : Nat) : Nat :=
  let N := scaledDividend fmt a
  if 2 * (N % Config.divisor) > Config.divisor then N / Config.divisor + 1 else N / Config.divisor

/-- `lane_bits(n)`, the reference algorithm (rule R58). -/
def laneBits (fmt : Fmt) (n : SInt8) : BitVec fmt.flen :=
  if n.val = 0 then plusZero fmt
  else
    let a := n.val.natAbs
    assemble fmt (if n.val < 0 then 1 else 0) (quotientExp a + (fmt.bias : Int)).toNat
      (roundedQuotient fmt a - 2 ^ (fmt.prec - 1))

/-- FDIV127 (rule R56): `round_FMT(x / 127)`, by the reference algorithm of rule R58. -/
def fdiv127 (fmt : Fmt) (x : Dividend fmt) : BitVec fmt.flen := laneBits fmt x.value

/-- One lane (rule R53): `lane(n) = FDIV127(I8TOFP(n))`. -/
def lane (fmt : Fmt) (n : SInt8) : BitVec fmt.flen := fdiv127 fmt (i8tofp fmt n)

end Sys2Proof.Machine
end

