-- ==== Sys2Proof/Syntax.lean ====
section
/-!
DEFINITION. The operations a requester can select (spec/opcode_table.json: one row), and the request syntax of
spec/30_encoding.md rule R46.
-/

namespace Sys2Proof

/-- One constructor per row of spec/opcode_table.json. -/
inductive Instr where
  /-- `NORM4` (rules R41, R72): the four byte fields `b0` … `b3` of the request, buffer offsets 0 to 3
  (earth, air, water, fire). -/
  | norm4 (b0 b1 b2 b3 : Byte)
deriving DecidableEq, Repr

/-- The spec's spelling of a request (rule R46). -/
inductive Source where
  /-- `NORM4 [e, a, w, f]`: signed decimals in buffer order; the length is 4. -/
  | norm4 (e a w f : Int)
  /-- `REQ len, 0xWWWWWWWW`: any request, by its length field and its `req_data`. -/
  | req (len data : Nat)
deriving DecidableEq, Repr

/-- A requester's byte buffer, of any length; its length is the `len` of a request at the transaction level
(rule R6). -/
abbrev Buffer := List Byte

end Sys2Proof
end

