-- ==== Sys2Proof/Decode.lean ====
section
/-!
DEFINITION. Decoding a 35-bit request, total and rejecting by name, then the encoder
(spec/30_encoding.md rules R35, R41 to R46).
-/

namespace Sys2Proof

/-- Why a request is no operation. -/
inductive Reject where
  /-- The `len` field is not 4 (rule R43). -/
  | illegalLength (len : Len)
deriving DecidableEq, Repr

/-- The `len` field, bits 34:32 (rule R35). -/
def lenField (w : ReqWord) : Len := w.extractLsb' 32 3

/-- The `req_data` bits, 31:0 (rule R35). -/
def dataField (w : ReqWord) : ReqData := w.extractLsb' 0 32

/-- Byte `i` of the 32-bit carrier, `req_data[8i+7 : 8i]` (rules R24, R35). -/
def dataByte (data : ReqData) (i : Fin 4) : Byte := data.extractLsb' (8 * i.val) 8

/-- Operation select and the byte fields: "`if REQ[34:32] = 4 then NORM4 else illegal`" (rules R41, R43). -/
def decode (w : ReqWord) : Except Reject Instr :=
  if lenField w = 4#3 then
    .ok (.norm4 (dataByte (dataField w) 0) (dataByte (dataField w) 1)
      (dataByte (dataField w) 2) (dataByte (dataField w) 3))
  else .error (.illegalLength (lenField w))

/-- The `mask` of the row NORM4 (rule R41). -/
def norm4Mask : ReqWord := 0x700000000#35

/-- The `match` of the row NORM4 (rule R41). -/
def norm4Match : ReqWord := 0x400000000#35

/-- `REQ = {len, b3, b2, b1, b0}` (rule R35), most significant field first, with `len` = 4. -/
def encode : Instr → ReqWord
  | .norm4 b0 b1 b2 b3 => 4#3 ++ b3 ++ b2 ++ b1 ++ b0

/-- The request a line of the syntax of rule R46 stands for; a decimal is held as its two's-complement byte. -/
def Source.assemble : Source → ReqWord
  | .norm4 e a w f =>
    encode (.norm4 (BitVec.ofInt 8 e) (BitVec.ofInt 8 a) (BitVec.ofInt 8 w) (BitVec.ofInt 8 f))
  | .req len data => BitVec.ofNat 3 len ++ BitVec.ofNat 32 data

/-- The instruction the decoder reads from an opcode-table word of `nbits` bits; the bits from `nbits` up are 0. A request
is always 35 bits (rule R45), which the word holds from bit 0: a word with a bit set above them is none. -/
def decodeTableWord (nbits w : Nat) : Option Instr :=
  if w % 2 ^ nbits < 2 ^ 35 then
    match decode (BitVec.ofNat 35 (w % 2 ^ nbits)) with
    | .ok i => some i
    | .error _ => none
  else none

end Sys2Proof
end

