-- ==== Sys2Proof/Machine/State.lean ====
section
/-!
DEFINITION. The state of a step: the block's six ports (spec/30_encoding.md rule R34), the requester's coming
presentations and received responses (spec/43_norm4.md rules R78, R105), and the model's counter of free values. The block
has no state of its own (spec/10_state.md rules R10 to R19; notes/assumptions/1.md).
-/

namespace Sys2Proof.Machine

/-- The two error names (rules R79, R80). -/
inductive ErrorCode where
  /-- Raised by every request whose length is not 4, and by nothing else (rule R79). -/
  | invalidInputLength
  /-- Allocated for the name and never raised (rule R80). -/
  | invalidEncoding
deriving DecidableEq, Repr

/-- Four results of one format (rules R36, R40): each lane's encoding, `FLEN` bits. -/
inductive Results where
  | b64 (f : Lanes (BitVec 64))
  | b32 (f : Lanes (BitVec 32))
deriving DecidableEq, Repr

/-- A response at the transaction level (rules R6, R95): four results, or an error and no value. -/
inductive Response where
  | ok (f : Results)
  | err (e : ErrorCode)
deriving DecidableEq, Repr

/-- The wires of `resp_data`: 4 * `FLEN` of them, 256 in a `B64` build, 128 in a `B32` build (rule R34). -/
inductive RespData where
  | b64 (w : BitVec 256)
  | b32 (w : BitVec 128)
deriving DecidableEq, Repr

/-- The three request ports (rule R34). -/
structure ReqPort where
  /-- `req_valid`: a request is presented. -/
  valid : Bool
  /-- `req_len`: the number of bytes in the presented buffer, saturated at 7 (rule R39). -/
  len : Len
  /-- `req_data`: the first four bytes of the buffer (rule R35). -/
  data : ReqData
deriving DecidableEq, Repr

/-- The three response ports (rule R34). -/
structure RespPort where
  /-- `resp_valid`: a response is presented. -/
  valid : Bool
  /-- `resp_status`: the code of rule R37. -/
  status : BitVec 2
  /-- `resp_data`: the four results, lane 0 lowest (rule R36). -/
  data : RespData
deriving DecidableEq, Repr

/-- The state of a step. Only the ports are the block's; they are wires, and the block remembers none of them
(rules R10, R100). -/
structure State where
  /-- What the requester presents in the coming instants, first one first (rule R105; notes/assumptions/2.md). -/
  script : List ReqPort
  /-- The request ports at this instant. -/
  req : ReqPort
  /-- The response ports at this instant. -/
  resp : RespPort
  /-- The responses the requester has had, oldest first: the run's result (rule R78). -/
  received : List Response
  /-- The model's own: how many free values have been taken (notes/assumptions/3.md). -/
  draws : Nat
deriving DecidableEq, Repr

/-- Reasons to stop with a fault. There is none: "no agent is ever stuck" (rule R95); an error is a response, hence a
next state (rule R84). -/
inductive Fault where
deriving DecidableEq, Repr

/-- Reasons to refuse. "no request is refused by the model: `Norm` is total" (rule R95). -/
inductive Refusal where
  /-- Raised by an arm of `exec` whose instruction has no meaning yet (safe: the machine stops). No arm raises it. -/
  | notModelled (mnemonic : String)
deriving DecidableEq, Repr

/-- The request ports side by side. -/
def ReqPort.wires (d : ReqPort) : InputWires := BitVec.ofBool d.valid ++ d.len ++ d.data

/-- The `k`-th free value of `resp_data`, at the width of the build (rule R38; notes/assumptions/3.md). -/
def RespData.draw : Fmt → Nat → InputWires → RespData
  | .b64, k, w => .b64 (Config.freeData256 k w)
  | .b32, k, w => .b32 (Config.freeData128 k w)

/-- The request ports before any request: `req_valid` = 0. The other two are input wires the spec gives no value
(DESIGN CHOICE 0, notes/assumptions/4.md). -/
def ReqPort.quiet : ReqPort := ⟨false, 0#3, 0#32⟩

/-- Right after power-up (rule R97), in either build: no request is presented, so `resp_valid` = 0 and `resp_status` and
`resp_data` are unspecified. The requester's lists are empty (notes/assumptions/4.md). -/
def State.resetOf (fmt : Fmt) : State :=
  { script := []
    req := .quiet
    resp := ⟨false, Config.freeStatus 0 ReqPort.quiet.wires, .draw fmt 0 ReqPort.quiet.wires⟩
    received := []
    draws := 1 }

/-- The machine right after power-up (rule R97). -/
def State.reset : State := .resetOf Config.fmt

end Sys2Proof.Machine
end

