-- ==== Sys2Proof/Machine/Flags.lean ====
section
/-!
DEFINITION. The block has no flag: no condition code and no IEEE 754 exception flag, kept or shown (spec/10_state.md rule
R13, spec/41_fdiv127.md rule R67). "The only status the block produces is the per-response `status`" (rule R13): its codes
(spec/30_encoding.md rule R37).
-/

namespace Sys2Proof.Machine

/-- The code of an error (rules R37, R79, R80). -/
def ErrorCode.code : ErrorCode → BitVec 2
  | .invalidInputLength => 1#2
  | .invalidEncoding => 2#2

/-- `resp_status` of a response (rule R37). -/
def Response.status : Response → BitVec 2
  | .ok _ => 0#2
  | .err e => e.code

end Sys2Proof.Machine
end

