-- ==== Sys2Proof/Machine/Operands.lean ====
section
/-!
DEFINITION. Operand assembly: reading bytes of the request buffer and UNPACK4, the byte_unpacker_little_endian
(spec/40_unpack.md rules R48 to R52, spec/30_encoding.md rule R42).
-/

namespace Sys2Proof.Machine

/-- `sint8(b)`: `b` if bit 7 is clear, `b - 256` if it is set (rule R48). -/
def sint8 (b : Byte) : SInt8 :=
  if h : b.toNat < 128 then ⟨(b.toNat : Int), by omega⟩
  else ⟨(b.toNat : Int) - 256, by have := b.isLt; omega⟩

/-- The four bytes of the 32-bit carrier, offset 0 first: `req_data[8i+7 : 8i]` at offset `i` (rules R24, R48). -/
def dataBytes (data : ReqData) : Lanes Byte :=
  ⟨dataByte data 0, dataByte data 1, dataByte data 2, dataByte data 3⟩

/-- UNPACK4 (rule R48): `n[i] = sint8(buf[i])`, in the order earth, air, water, fire. -/
def unpack4 (buf : Lanes Byte) : Lanes SInt8 := buf.map sint8

end Sys2Proof.Machine
end

