-- ==== Sys2Proof/Machine/Ops.lean ====
section
/-!
DEFINITION. The shared operations: the request buffer as memory, presenting a request, answering it, raising an error, an
instant without a request, and the cycle that a step is made of (spec/20_memory.md; spec/30_encoding.md rules R35 to R39;
spec/60_exceptions.md rule R84; spec/70_reset_and_hazards.md rule R97).
-/

namespace Sys2Proof.Machine

/-! ### The request -/

/-- The presented request as the 35-bit word `REQ = {req_len, req_data}` (rule R35). -/
def ReqPort.word (d : ReqPort) : ReqWord := d.len ++ d.data

/-- The presentation of a 35-bit request (rule R35). -/
def ReqPort.ofWord (w : ReqWord) : ReqPort := ⟨true, lenField w, dataField w⟩

/-- How many bytes the length field says a buffer has: the number itself from 0 to 6, and 7 for 7 or more (rule R39). -/
def lenOfBuffer (buf : Buffer) : Len := BitVec.ofNat 3 (min buf.length 7)

/-- Byte `i` of the carrier when `buf` is presented: the buffer's, or where it has none whatever the requester drives
there, here `spare` (rules R39, R99). -/
def carriedByte (buf : Buffer) (spare : ReqData) (i : Fin 4) : Byte := buf.getD i.val (dataByte spare i)

/-- A buffer of any length at the request ports (rules R24, R35, R39). -/
def ReqPort.ofBuffer (buf : Buffer) (spare : ReqData) : ReqPort :=
  { valid := true
    len := lenOfBuffer buf
    data := carriedByte buf spare 3 ++ carriedByte buf spare 2 ++ carriedByte buf spare 1 ++ carriedByte buf spare 0 }

/-! ### Memory: the request buffer, read only -/

/-- Bytes by address. An address that is not listed does not exist. -/
abbrev Memory := List Host.Cell

/-- The canonical form: addresses strictly rising. (An unlisted address reads as nothing, which no entry equals.) -/
def Memory.wf : Memory → Bool
  | [] => true
  | [_] => true
  | c :: d :: rest => decide (c.1 < d.1) && Memory.wf (d :: rest)

/-- The byte at an address, none where the address does not exist. -/
def Memory.read : Memory → Nat → Option Byte
  | [], _ => none
  | c :: rest, a => if c.1 = a then some c.2 else Memory.read rest a

/-- The one address space (rules R17, R20): offsets 0 to 3 of a request with `len` = 4, and nothing else. -/
def ReqPort.buffer (d : ReqPort) : Memory :=
  if d.valid = true ∧ d.len = 4#3 then
    [(0, dataByte d.data 0), (1, dataByte d.data 1), (2, dataByte d.data 2), (3, dataByte d.data 3)]
  else []

/-- `MemRead(a, 1)` (rule R8): a byte of the request buffer. There is no `MemWrite` (rule R30). -/
def State.memRead (s : State) (a : Nat) : Option Byte := s.req.buffer.read a

/-! ### The response -/

/-- `resp_data` of four results: lane `i` in bits `[FLEN*i + FLEN - 1 : FLEN*i]` (rule R36). -/
def Results.pack : Results → RespData
  | .b64 f => .b64 (f.fire ++ f.water ++ f.air ++ f.earth)
  | .b32 f => .b32 (f.fire ++ f.water ++ f.air ++ f.earth)

/-- The transaction ends with status `OK` and the four results: `return Ok(f[0], …, f[3])` (rules R8, R38). -/
def State.respond (f : Results) (s : State) : State :=
  { s with
    resp := ⟨true, (Response.ok f).status, f.pack⟩
    received := s.received ++ [.ok f] }

/-- TAKING AN ERROR, `raise E()` (rules R8, R84): the response of this transaction is `Err(code(E))`; no result value is
produced, so `resp_data` is a free value (rule R38); nothing is saved and control goes nowhere, "because the block has no
control flow". There is no return-from-error operation and nothing to restore (rule R87). -/
def State.raise (fmt : Fmt) (e : ErrorCode) (s : State) : State :=
  { s with
    resp := ⟨true, (Response.err e).status, .draw fmt s.draws s.req.wires⟩
    received := s.received ++ [.err e]
    draws := s.draws + 1 }

/-- An instant in which no request is presented: `resp_valid` = 0, and `resp_status` and `resp_data` are unspecified
(rules R38, R97). -/
def State.idle (fmt : Fmt) (s : State) : State :=
  { s with
    resp := ⟨false, Config.freeStatus s.draws s.req.wires, .draw fmt s.draws s.req.wires⟩
    draws := s.draws + 1 }

/-- The error an illegal request is answered with (rules R43, R79). -/
def rejectError : Reject → ErrorCode
  | .illegalLength _ => .invalidInputLength

/-! ### One instant -/

/-- The requester presents what comes next; when it has nothing left, it takes its request away and leaves the other wires
as they are (rule R105; notes/assumptions/2.md). -/
def State.present (s : State) : State :=
  match s.script with
  | [] => { s with req := { s.req with valid := false } }
  | d :: rest => { s with script := rest, req := d }

/-- One instant of a build whose operations are `run`: a request is presented or not, and the block's outputs follow
(rules R38, R78, R97, R100). The length alone decides between the operation and the error (rules R43, R83). -/
def cycle (fmt : Fmt) (run : Instr → State → Host.Outcome State Fault Refusal) (s : State) :
    Host.Outcome State Fault Refusal :=
  let p := s.present
  if p.req.valid then
    match decode p.req.word with
    | .ok i => run i p
    | .error e => .next (p.raise fmt (rejectError e))
  else .next (p.idle fmt)

end Sys2Proof.Machine
end

