-- ==== Sys2Proof/Machine/Norm4.lean ====
section
/-!
DEFINITION. NORM4, the whole operation: the function `Norm` of the transaction level, its image at the ports, and the
meaning of the instruction (spec/43_norm4.md rules R72 to R78).
-/

namespace Sys2Proof.Machine

/-- The four identical lanes, in either format (rules R72, R73). -/
def laneResults : Fmt → Lanes SInt8 → Results
  | .b64, n => .b64 (n.map (lane .b64))
  | .b32, n => .b32 (n.map (lane .b32))

/-- UNPACK4, then I8TOFP and FDIV127 in each lane: the results of a four-byte buffer (rule R72). -/
def norm4Results (fmt : Fmt) (buf : Lanes Byte) : Results := laneResults fmt (unpack4 buf)

/-- `Norm(len, buf)`, the total function from requests to responses (rule R72); `len` is the buffer's length. -/
def normBuffer (fmt : Fmt) (buf : Buffer) : Response :=
  match buf with
  | [b0, b1, b2, b3] => .ok (norm4Results fmt ⟨b0, b1, b2, b3⟩)
  | _ => .err .invalidInputLength

/-- `Norm(req_len, req_data)`, what the ports carry when a request is presented (rule R38). -/
def normPort (fmt : Fmt) (d : ReqPort) : Response :=
  if d.len = 4#3 then
    normBuffer fmt [dataByte d.data 0, dataByte d.data 1, dataByte d.data 2, dataByte d.data 3]
  else .err .invalidInputLength

/-- NORM4 in a build of format `fmt`. -/
def execNorm4Of (fmt : Fmt) (b0 b1 b2 b3 : Byte) (s : State) : Host.Outcome State Fault Refusal :=
  .next (s.respond (norm4Results fmt ⟨b0, b1, b2, b3⟩))

/-- NORM4 (rule R72): the results are the response; nothing else changes (rules R13, R30). -/
def execNorm4 (b0 b1 b2 b3 : Byte) (s : State) : Host.Outcome State Fault Refusal :=
  execNorm4Of Config.fmt b0 b1 b2 b3 s

end Sys2Proof.Machine
end

