-- ==== Sys2Proof/Machine/Dispatch.lean ====
section
/-!
DEFINITION. One arm per constructor of `Instr`.
-/

namespace Sys2Proof.Machine

def exec (i : Instr) (s : State) : Host.Outcome State Fault Refusal :=
  match i with
  | .norm4 b0 b1 b2 b3 => Sys2Proof.Machine.execNorm4 b0 b1 b2 b3 s

end Sys2Proof.Machine
end

