-- ==== Sys2Proof/Machine/Step.lean ====
section
/-!
DEFINITION. One step of the machine: one instant, hence one transaction at most (spec/43_norm4.md rule R78,
spec/70_reset_and_hazards.md rule R104). And how a request comes to be the next one presented.
-/

namespace Sys2Proof.Machine

/-- One step of the build `Config.fmt`. -/
def step (s : State) : Host.Outcome State Fault Refusal := cycle Config.fmt exec s

/-- The request whose bits are `w` is what the requester presents next, in place of what it would have presented
(notes/assumptions/2.md). The bits from `nbits` up are 0; a request has 35. -/
def State.withFetchWord (s : State) (nbits w : Nat) : State :=
  { s with script := ReqPort.ofWord (BitVec.ofNat 35 (w % 2 ^ nbits)) :: s.script.drop 1 }

end Sys2Proof.Machine
end

