-- ==== Sys2Proof/Machine/Builds.lean ====
section
/-!
DEFINITION. The machine of either build: format `FMT` is a configuration argument (spec/00_scope.md rule R5,
spec/10_state.md rule R14). `step` is the build `Config.fmt` of it.
-/

namespace Sys2Proof.Machine

/-- The operations of the build of format `fmt`. -/
def execOf (fmt : Fmt) : Instr → State → Host.Outcome State Fault Refusal
  | .norm4 b0 b1 b2 b3, s => execNorm4Of fmt b0 b1 b2 b3 s

/-- One step of the build of format `fmt`. -/
def stepOf (fmt : Fmt) (s : State) : Host.Outcome State Fault Refusal := cycle fmt (execOf fmt) s

/-- `k` steps of the build of format `fmt`. -/
def runOf (fmt : Fmt) : Nat → State → Host.Outcome State Fault Refusal
  | 0, s => .next s
  | k + 1, s =>
    match stepOf fmt s with
    | .next t => runOf fmt k t
    | .fault r => .fault r
    | .refused r => .refused r

end Sys2Proof.Machine
end

