-- ==== Sys2Proof/Machine/LaneTable.lean ====
section
/-!
DEFINITION. The complete result table of one lane, all 256 inputs and both formats, transcribed from
spec/42_fdiv127_table.md rule R71. The lane is defined by the algorithm of rule R58 (Machine/Fdiv127.lean); that the two
agree is a statement.
-/

namespace Sys2Proof.Machine

/-- Which way rounding to nearest went (rule R71): the result's magnitude is below the exact quotient's, above it, equal to
it, or the result is zero. -/
inductive Rounding where
  | down
  | up
  | exact
  | none
deriving DecidableEq, Repr

/-- One row of the table of rule R71; its column "decimal" is for orientation only and left out. -/
structure TableRow where
  /-- The signed input. -/
  n : Int
  /-- Its two's-complement byte. -/
  byte : Byte
  /-- The unbiased exponent of the quotient, none for zero. -/
  e : Option Int
  /-- Column "B64 bits". -/
  b64 : BitVec 64
  /-- Column "B64 rounding". -/
  r64 : Rounding
  /-- Column "B32 bits". -/
  b32 : BitVec 32
  /-- Column "B32 rounding". -/
  r32 : Rounding
deriving DecidableEq, Repr

/-- Rows -128 to -113. -/
def laneTable00 : List TableRow := [
  ⟨-128, 0x80, some (0), 0xBFF0204081020408, .down, 0xBF810204, .down⟩,
  ⟨-127, 0x81, some (0), 0xBFF0000000000000, .exact, 0xBF800000, .exact⟩,
  ⟨-126, 0x82, some (-1), 0xBFEFBF7EFDFBF7F0, .up, 0xBF7DFBF8, .up⟩,
  ⟨-125, 0x83, some (-1), 0xBFEF7EFDFBF7EFE0, .up, 0xBF7BF7F0, .up⟩,
  ⟨-124, 0x84, some (-1), 0xBFEF3E7CF9F3E7D0, .up, 0xBF79F3E8, .up⟩,
  ⟨-123, 0x85, some (-1), 0xBFEEFDFBF7EFDFBF, .down, 0xBF77EFE0, .up⟩,
  ⟨-122, 0x86, some (-1), 0xBFEEBD7AF5EBD7AF, .down, 0xBF75EBD8, .up⟩,
  ⟨-121, 0x87, some (-1), 0xBFEE7CF9F3E7CF9F, .down, 0xBF73E7D0, .up⟩,
  ⟨-120, 0x88, some (-1), 0xBFEE3C78F1E3C78F, .down, 0xBF71E3C8, .up⟩,
  ⟨-119, 0x89, some (-1), 0xBFEDFBF7EFDFBF7F, .up, 0xBF6FDFBF, .down⟩,
  ⟨-118, 0x8A, some (-1), 0xBFEDBB76EDDBB76F, .up, 0xBF6DDBB7, .down⟩,
  ⟨-117, 0x8B, some (-1), 0xBFED7AF5EBD7AF5F, .up, 0xBF6BD7AF, .down⟩,
  ⟨-116, 0x8C, some (-1), 0xBFED3A74E9D3A74F, .up, 0xBF69D3A7, .down⟩,
  ⟨-115, 0x8D, some (-1), 0xBFECF9F3E7CF9F3E, .down, 0xBF67CF9F, .down⟩,
  ⟨-114, 0x8E, some (-1), 0xBFECB972E5CB972E, .down, 0xBF65CB97, .down⟩,
  ⟨-113, 0x8F, some (-1), 0xBFEC78F1E3C78F1E, .down, 0xBF63C78F, .down⟩]

/-- Rows -112 to -97. -/
def laneTable01 : List TableRow := [
  ⟨-112, 0x90, some (-1), 0xBFEC3870E1C3870E, .down, 0xBF61C387, .down⟩,
  ⟨-111, 0x91, some (-1), 0xBFEBF7EFDFBF7EFE, .up, 0xBF5FBF7F, .up⟩,
  ⟨-110, 0x92, some (-1), 0xBFEBB76EDDBB76EE, .up, 0xBF5DBB77, .up⟩,
  ⟨-109, 0x93, some (-1), 0xBFEB76EDDBB76EDE, .up, 0xBF5BB76F, .up⟩,
  ⟨-108, 0x94, some (-1), 0xBFEB366CD9B366CE, .up, 0xBF59B367, .up⟩,
  ⟨-107, 0x95, some (-1), 0xBFEAF5EBD7AF5EBD, .down, 0xBF57AF5F, .up⟩,
  ⟨-106, 0x96, some (-1), 0xBFEAB56AD5AB56AD, .down, 0xBF55AB57, .up⟩,
  ⟨-105, 0x97, some (-1), 0xBFEA74E9D3A74E9D, .down, 0xBF53A74F, .up⟩,
  ⟨-104, 0x98, some (-1), 0xBFEA3468D1A3468D, .down, 0xBF51A347, .up⟩,
  ⟨-103, 0x99, some (-1), 0xBFE9F3E7CF9F3E7D, .up, 0xBF4F9F3E, .down⟩,
  ⟨-102, 0x9A, some (-1), 0xBFE9B366CD9B366D, .up, 0xBF4D9B36, .down⟩,
  ⟨-101, 0x9B, some (-1), 0xBFE972E5CB972E5D, .up, 0xBF4B972E, .down⟩,
  ⟨-100, 0x9C, some (-1), 0xBFE93264C993264D, .up, 0xBF499326, .down⟩,
  ⟨-99, 0x9D, some (-1), 0xBFE8F1E3C78F1E3C, .down, 0xBF478F1E, .down⟩,
  ⟨-98, 0x9E, some (-1), 0xBFE8B162C58B162C, .down, 0xBF458B16, .down⟩,
  ⟨-97, 0x9F, some (-1), 0xBFE870E1C3870E1C, .down, 0xBF43870E, .down⟩]

/-- Rows -96 to -81. -/
def laneTable02 : List TableRow := [
  ⟨-96, 0xA0, some (-1), 0xBFE83060C183060C, .down, 0xBF418306, .down⟩,
  ⟨-95, 0xA1, some (-1), 0xBFE7EFDFBF7EFDFC, .up, 0xBF3F7EFE, .up⟩,
  ⟨-94, 0xA2, some (-1), 0xBFE7AF5EBD7AF5EC, .up, 0xBF3D7AF6, .up⟩,
  ⟨-93, 0xA3, some (-1), 0xBFE76EDDBB76EDDC, .up, 0xBF3B76EE, .up⟩,
  ⟨-92, 0xA4, some (-1), 0xBFE72E5CB972E5CC, .up, 0xBF3972E6, .up⟩,
  ⟨-91, 0xA5, some (-1), 0xBFE6EDDBB76EDDBB, .down, 0xBF376EDE, .up⟩,
  ⟨-90, 0xA6, some (-1), 0xBFE6AD5AB56AD5AB, .down, 0xBF356AD6, .up⟩,
  ⟨-89, 0xA7, some (-1), 0xBFE66CD9B366CD9B, .down, 0xBF3366CE, .up⟩,
  ⟨-88, 0xA8, some (-1), 0xBFE62C58B162C58B, .down, 0xBF3162C6, .up⟩,
  ⟨-87, 0xA9, some (-1), 0xBFE5EBD7AF5EBD7B, .up, 0xBF2F5EBD, .down⟩,
  ⟨-86, 0xAA, some (-1), 0xBFE5AB56AD5AB56B, .up, 0xBF2D5AB5, .down⟩,
  ⟨-85, 0xAB, some (-1), 0xBFE56AD5AB56AD5B, .up, 0xBF2B56AD, .down⟩,
  ⟨-84, 0xAC, some (-1), 0xBFE52A54A952A54B, .up, 0xBF2952A5, .down⟩,
  ⟨-83, 0xAD, some (-1), 0xBFE4E9D3A74E9D3A, .down, 0xBF274E9D, .down⟩,
  ⟨-82, 0xAE, some (-1), 0xBFE4A952A54A952A, .down, 0xBF254A95, .down⟩,
  ⟨-81, 0xAF, some (-1), 0xBFE468D1A3468D1A, .down, 0xBF23468D, .down⟩]

/-- Rows -80 to -65. -/
def laneTable03 : List TableRow := [
  ⟨-80, 0xB0, some (-1), 0xBFE42850A142850A, .down, 0xBF214285, .down⟩,
  ⟨-79, 0xB1, some (-1), 0xBFE3E7CF9F3E7CFA, .up, 0xBF1F3E7D, .up⟩,
  ⟨-78, 0xB2, some (-1), 0xBFE3A74E9D3A74EA, .up, 0xBF1D3A75, .up⟩,
  ⟨-77, 0xB3, some (-1), 0xBFE366CD9B366CDA, .up, 0xBF1B366D, .up⟩,
  ⟨-76, 0xB4, some (-1), 0xBFE3264C993264CA, .up, 0xBF193265, .up⟩,
  ⟨-75, 0xB5, some (-1), 0xBFE2E5CB972E5CB9, .down, 0xBF172E5D, .up⟩,
  ⟨-74, 0xB6, some (-1), 0xBFE2A54A952A54A9, .down, 0xBF152A55, .up⟩,
  ⟨-73, 0xB7, some (-1), 0xBFE264C993264C99, .down, 0xBF13264D, .up⟩,
  ⟨-72, 0xB8, some (-1), 0xBFE2244891224489, .down, 0xBF112245, .up⟩,
  ⟨-71, 0xB9, some (-1), 0xBFE1E3C78F1E3C79, .up, 0xBF0F1E3C, .down⟩,
  ⟨-70, 0xBA, some (-1), 0xBFE1A3468D1A3469, .up, 0xBF0D1A34, .down⟩,
  ⟨-69, 0xBB, some (-1), 0xBFE162C58B162C59, .up, 0xBF0B162C, .down⟩,
  ⟨-68, 0xBC, some (-1), 0xBFE1224489122449, .up, 0xBF091224, .down⟩,
  ⟨-67, 0xBD, some (-1), 0xBFE0E1C3870E1C38, .down, 0xBF070E1C, .down⟩,
  ⟨-66, 0xBE, some (-1), 0xBFE0A142850A1428, .down, 0xBF050A14, .down⟩,
  ⟨-65, 0xBF, some (-1), 0xBFE060C183060C18, .down, 0xBF03060C, .down⟩]

/-- Rows -64 to -49. -/
def laneTable04 : List TableRow := [
  ⟨-64, 0xC0, some (-1), 0xBFE0204081020408, .down, 0xBF010204, .down⟩,
  ⟨-63, 0xC1, some (-2), 0xBFDFBF7EFDFBF7F0, .up, 0xBEFDFBF8, .up⟩,
  ⟨-62, 0xC2, some (-2), 0xBFDF3E7CF9F3E7D0, .up, 0xBEF9F3E8, .up⟩,
  ⟨-61, 0xC3, some (-2), 0xBFDEBD7AF5EBD7AF, .down, 0xBEF5EBD8, .up⟩,
  ⟨-60, 0xC4, some (-2), 0xBFDE3C78F1E3C78F, .down, 0xBEF1E3C8, .up⟩,
  ⟨-59, 0xC5, some (-2), 0xBFDDBB76EDDBB76F, .up, 0xBEEDDBB7, .down⟩,
  ⟨-58, 0xC6, some (-2), 0xBFDD3A74E9D3A74F, .up, 0xBEE9D3A7, .down⟩,
  ⟨-57, 0xC7, some (-2), 0xBFDCB972E5CB972E, .down, 0xBEE5CB97, .down⟩,
  ⟨-56, 0xC8, some (-2), 0xBFDC3870E1C3870E, .down, 0xBEE1C387, .down⟩,
  ⟨-55, 0xC9, some (-2), 0xBFDBB76EDDBB76EE, .up, 0xBEDDBB77, .up⟩,
  ⟨-54, 0xCA, some (-2), 0xBFDB366CD9B366CE, .up, 0xBED9B367, .up⟩,
  ⟨-53, 0xCB, some (-2), 0xBFDAB56AD5AB56AD, .down, 0xBED5AB57, .up⟩,
  ⟨-52, 0xCC, some (-2), 0xBFDA3468D1A3468D, .down, 0xBED1A347, .up⟩,
  ⟨-51, 0xCD, some (-2), 0xBFD9B366CD9B366D, .up, 0xBECD9B36, .down⟩,
  ⟨-50, 0xCE, some (-2), 0xBFD93264C993264D, .up, 0xBEC99326, .down⟩,
  ⟨-49, 0xCF, some (-2), 0xBFD8B162C58B162C, .down, 0xBEC58B16, .down⟩]

/-- Rows -48 to -33. -/
def laneTable05 : List TableRow := [
  ⟨-48, 0xD0, some (-2), 0xBFD83060C183060C, .down, 0xBEC18306, .down⟩,
  ⟨-47, 0xD1, some (-2), 0xBFD7AF5EBD7AF5EC, .up, 0xBEBD7AF6, .up⟩,
  ⟨-46, 0xD2, some (-2), 0xBFD72E5CB972E5CC, .up, 0xBEB972E6, .up⟩,
  ⟨-45, 0xD3, some (-2), 0xBFD6AD5AB56AD5AB, .down, 0xBEB56AD6, .up⟩,
  ⟨-44, 0xD4, some (-2), 0xBFD62C58B162C58B, .down, 0xBEB162C6, .up⟩,
  ⟨-43, 0xD5, some (-2), 0xBFD5AB56AD5AB56B, .up, 0xBEAD5AB5, .down⟩,
  ⟨-42, 0xD6, some (-2), 0xBFD52A54A952A54B, .up, 0xBEA952A5, .down⟩,
  ⟨-41, 0xD7, some (-2), 0xBFD4A952A54A952A, .down, 0xBEA54A95, .down⟩,
  ⟨-40, 0xD8, some (-2), 0xBFD42850A142850A, .down, 0xBEA14285, .down⟩,
  ⟨-39, 0xD9, some (-2), 0xBFD3A74E9D3A74EA, .up, 0xBE9D3A75, .up⟩,
  ⟨-38, 0xDA, some (-2), 0xBFD3264C993264CA, .up, 0xBE993265, .up⟩,
  ⟨-37, 0xDB, some (-2), 0xBFD2A54A952A54A9, .down, 0xBE952A55, .up⟩,
  ⟨-36, 0xDC, some (-2), 0xBFD2244891224489, .down, 0xBE912245, .up⟩,
  ⟨-35, 0xDD, some (-2), 0xBFD1A3468D1A3469, .up, 0xBE8D1A34, .down⟩,
  ⟨-34, 0xDE, some (-2), 0xBFD1224489122449, .up, 0xBE891224, .down⟩,
  ⟨-33, 0xDF, some (-2), 0xBFD0A142850A1428, .down, 0xBE850A14, .down⟩]

/-- Rows -32 to -17. -/
def laneTable06 : List TableRow := [
  ⟨-32, 0xE0, some (-2), 0xBFD0204081020408, .down, 0xBE810204, .down⟩,
  ⟨-31, 0xE1, some (-3), 0xBFCF3E7CF9F3E7D0, .up, 0xBE79F3E8, .up⟩,
  ⟨-30, 0xE2, some (-3), 0xBFCE3C78F1E3C78F, .down, 0xBE71E3C8, .up⟩,
  ⟨-29, 0xE3, some (-3), 0xBFCD3A74E9D3A74F, .up, 0xBE69D3A7, .down⟩,
  ⟨-28, 0xE4, some (-3), 0xBFCC3870E1C3870E, .down, 0xBE61C387, .down⟩,
  ⟨-27, 0xE5, some (-3), 0xBFCB366CD9B366CE, .up, 0xBE59B367, .up⟩,
  ⟨-26, 0xE6, some (-3), 0xBFCA3468D1A3468D, .down, 0xBE51A347, .up⟩,
  ⟨-25, 0xE7, some (-3), 0xBFC93264C993264D, .up, 0xBE499326, .down⟩,
  ⟨-24, 0xE8, some (-3), 0xBFC83060C183060C, .down, 0xBE418306, .down⟩,
  ⟨-23, 0xE9, some (-3), 0xBFC72E5CB972E5CC, .up, 0xBE3972E6, .up⟩,
  ⟨-22, 0xEA, some (-3), 0xBFC62C58B162C58B, .down, 0xBE3162C6, .up⟩,
  ⟨-21, 0xEB, some (-3), 0xBFC52A54A952A54B, .up, 0xBE2952A5, .down⟩,
  ⟨-20, 0xEC, some (-3), 0xBFC42850A142850A, .down, 0xBE214285, .down⟩,
  ⟨-19, 0xED, some (-3), 0xBFC3264C993264CA, .up, 0xBE193265, .up⟩,
  ⟨-18, 0xEE, some (-3), 0xBFC2244891224489, .down, 0xBE112245, .up⟩,
  ⟨-17, 0xEF, some (-3), 0xBFC1224489122449, .up, 0xBE091224, .down⟩]

/-- Rows -16 to -1. -/
def laneTable07 : List TableRow := [
  ⟨-16, 0xF0, some (-3), 0xBFC0204081020408, .down, 0xBE010204, .down⟩,
  ⟨-15, 0xF1, some (-4), 0xBFBE3C78F1E3C78F, .down, 0xBDF1E3C8, .up⟩,
  ⟨-14, 0xF2, some (-4), 0xBFBC3870E1C3870E, .down, 0xBDE1C387, .down⟩,
  ⟨-13, 0xF3, some (-4), 0xBFBA3468D1A3468D, .down, 0xBDD1A347, .up⟩,
  ⟨-12, 0xF4, some (-4), 0xBFB83060C183060C, .down, 0xBDC18306, .down⟩,
  ⟨-11, 0xF5, some (-4), 0xBFB62C58B162C58B, .down, 0xBDB162C6, .up⟩,
  ⟨-10, 0xF6, some (-4), 0xBFB42850A142850A, .down, 0xBDA14285, .down⟩,
  ⟨-9, 0xF7, some (-4), 0xBFB2244891224489, .down, 0xBD912245, .up⟩,
  ⟨-8, 0xF8, some (-4), 0xBFB0204081020408, .down, 0xBD810204, .down⟩,
  ⟨-7, 0xF9, some (-5), 0xBFAC3870E1C3870E, .down, 0xBD61C387, .down⟩,
  ⟨-6, 0xFA, some (-5), 0xBFA83060C183060C, .down, 0xBD418306, .down⟩,
  ⟨-5, 0xFB, some (-5), 0xBFA42850A142850A, .down, 0xBD214285, .down⟩,
  ⟨-4, 0xFC, some (-5), 0xBFA0204081020408, .down, 0xBD010204, .down⟩,
  ⟨-3, 0xFD, some (-6), 0xBF983060C183060C, .down, 0xBCC18306, .down⟩,
  ⟨-2, 0xFE, some (-6), 0xBF90204081020408, .down, 0xBC810204, .down⟩,
  ⟨-1, 0xFF, some (-7), 0xBF80204081020408, .down, 0xBC010204, .down⟩]

/-- Rows 0 to 15. -/
def laneTable08 : List TableRow := [
  ⟨0, 0x00, .none, 0x0000000000000000, .none, 0x00000000, .none⟩,
  ⟨1, 0x01, some (-7), 0x3F80204081020408, .down, 0x3C010204, .down⟩,
  ⟨2, 0x02, some (-6), 0x3F90204081020408, .down, 0x3C810204, .down⟩,
  ⟨3, 0x03, some (-6), 0x3F983060C183060C, .down, 0x3CC18306, .down⟩,
  ⟨4, 0x04, some (-5), 0x3FA0204081020408, .down, 0x3D010204, .down⟩,
  ⟨5, 0x05, some (-5), 0x3FA42850A142850A, .down, 0x3D214285, .down⟩,
  ⟨6, 0x06, some (-5), 0x3FA83060C183060C, .down, 0x3D418306, .down⟩,
  ⟨7, 0x07, some (-5), 0x3FAC3870E1C3870E, .down, 0x3D61C387, .down⟩,
  ⟨8, 0x08, some (-4), 0x3FB0204081020408, .down, 0x3D810204, .down⟩,
  ⟨9, 0x09, some (-4), 0x3FB2244891224489, .down, 0x3D912245, .up⟩,
  ⟨10, 0x0A, some (-4), 0x3FB42850A142850A, .down, 0x3DA14285, .down⟩,
  ⟨11, 0x0B, some (-4), 0x3FB62C58B162C58B, .down, 0x3DB162C6, .up⟩,
  ⟨12, 0x0C, some (-4), 0x3FB83060C183060C, .down, 0x3DC18306, .down⟩,
  ⟨13, 0x0D, some (-4), 0x3FBA3468D1A3468D, .down, 0x3DD1A347, .up⟩,
  ⟨14, 0x0E, some (-4), 0x3FBC3870E1C3870E, .down, 0x3DE1C387, .down⟩,
  ⟨15, 0x0F, some (-4), 0x3FBE3C78F1E3C78F, .down, 0x3DF1E3C8, .up⟩]

/-- Rows 16 to 31. -/
def laneTable09 : List TableRow := [
  ⟨16, 0x10, some (-3), 0x3FC0204081020408, .down, 0x3E010204, .down⟩,
  ⟨17, 0x11, some (-3), 0x3FC1224489122449, .up, 0x3E091224, .down⟩,
  ⟨18, 0x12, some (-3), 0x3FC2244891224489, .down, 0x3E112245, .up⟩,
  ⟨19, 0x13, some (-3), 0x3FC3264C993264CA, .up, 0x3E193265, .up⟩,
  ⟨20, 0x14, some (-3), 0x3FC42850A142850A, .down, 0x3E214285, .down⟩,
  ⟨21, 0x15, some (-3), 0x3FC52A54A952A54B, .up, 0x3E2952A5, .down⟩,
  ⟨22, 0x16, some (-3), 0x3FC62C58B162C58B, .down, 0x3E3162C6, .up⟩,
  ⟨23, 0x17, some (-3), 0x3FC72E5CB972E5CC, .up, 0x3E3972E6, .up⟩,
  ⟨24, 0x18, some (-3), 0x3FC83060C183060C, .down, 0x3E418306, .down⟩,
  ⟨25, 0x19, some (-3), 0x3FC93264C993264D, .up, 0x3E499326, .down⟩,
  ⟨26, 0x1A, some (-3), 0x3FCA3468D1A3468D, .down, 0x3E51A347, .up⟩,
  ⟨27, 0x1B, some (-3), 0x3FCB366CD9B366CE, .up, 0x3E59B367, .up⟩,
  ⟨28, 0x1C, some (-3), 0x3FCC3870E1C3870E, .down, 0x3E61C387, .down⟩,
  ⟨29, 0x1D, some (-3), 0x3FCD3A74E9D3A74F, .up, 0x3E69D3A7, .down⟩,
  ⟨30, 0x1E, some (-3), 0x3FCE3C78F1E3C78F, .down, 0x3E71E3C8, .up⟩,
  ⟨31, 0x1F, some (-3), 0x3FCF3E7CF9F3E7D0, .up, 0x3E79F3E8, .up⟩]

/-- Rows 32 to 47. -/
def laneTable10 : List TableRow := [
  ⟨32, 0x20, some (-2), 0x3FD0204081020408, .down, 0x3E810204, .down⟩,
  ⟨33, 0x21, some (-2), 0x3FD0A142850A1428, .down, 0x3E850A14, .down⟩,
  ⟨34, 0x22, some (-2), 0x3FD1224489122449, .up, 0x3E891224, .down⟩,
  ⟨35, 0x23, some (-2), 0x3FD1A3468D1A3469, .up, 0x3E8D1A34, .down⟩,
  ⟨36, 0x24, some (-2), 0x3FD2244891224489, .down, 0x3E912245, .up⟩,
  ⟨37, 0x25, some (-2), 0x3FD2A54A952A54A9, .down, 0x3E952A55, .up⟩,
  ⟨38, 0x26, some (-2), 0x3FD3264C993264CA, .up, 0x3E993265, .up⟩,
  ⟨39, 0x27, some (-2), 0x3FD3A74E9D3A74EA, .up, 0x3E9D3A75, .up⟩,
  ⟨40, 0x28, some (-2), 0x3FD42850A142850A, .down, 0x3EA14285, .down⟩,
  ⟨41, 0x29, some (-2), 0x3FD4A952A54A952A, .down, 0x3EA54A95, .down⟩,
  ⟨42, 0x2A, some (-2), 0x3FD52A54A952A54B, .up, 0x3EA952A5, .down⟩,
  ⟨43, 0x2B, some (-2), 0x3FD5AB56AD5AB56B, .up, 0x3EAD5AB5, .down⟩,
  ⟨44, 0x2C, some (-2), 0x3FD62C58B162C58B, .down, 0x3EB162C6, .up⟩,
  ⟨45, 0x2D, some (-2), 0x3FD6AD5AB56AD5AB, .down, 0x3EB56AD6, .up⟩,
  ⟨46, 0x2E, some (-2), 0x3FD72E5CB972E5CC, .up, 0x3EB972E6, .up⟩,
  ⟨47, 0x2F, some (-2), 0x3FD7AF5EBD7AF5EC, .up, 0x3EBD7AF6, .up⟩]

/-- Rows 48 to 63. -/
def laneTable11 : List TableRow := [
  ⟨48, 0x30, some (-2), 0x3FD83060C183060C, .down, 0x3EC18306, .down⟩,
  ⟨49, 0x31, some (-2), 0x3FD8B162C58B162C, .down, 0x3EC58B16, .down⟩,
  ⟨50, 0x32, some (-2), 0x3FD93264C993264D, .up, 0x3EC99326, .down⟩,
  ⟨51, 0x33, some (-2), 0x3FD9B366CD9B366D, .up, 0x3ECD9B36, .down⟩,
  ⟨52, 0x34, some (-2), 0x3FDA3468D1A3468D, .down, 0x3ED1A347, .up⟩,
  ⟨53, 0x35, some (-2), 0x3FDAB56AD5AB56AD, .down, 0x3ED5AB57, .up⟩,
  ⟨54, 0x36, some (-2), 0x3FDB366CD9B366CE, .up, 0x3ED9B367, .up⟩,
  ⟨55, 0x37, some (-2), 0x3FDBB76EDDBB76EE, .up, 0x3EDDBB77, .up⟩,
  ⟨56, 0x38, some (-2), 0x3FDC3870E1C3870E, .down, 0x3EE1C387, .down⟩,
  ⟨57, 0x39, some (-2), 0x3FDCB972E5CB972E, .down, 0x3EE5CB97, .down⟩,
  ⟨58, 0x3A, some (-2), 0x3FDD3A74E9D3A74F, .up, 0x3EE9D3A7, .down⟩,
  ⟨59, 0x3B, some (-2), 0x3FDDBB76EDDBB76F, .up, 0x3EEDDBB7, .down⟩,
  ⟨60, 0x3C, some (-2), 0x3FDE3C78F1E3C78F, .down, 0x3EF1E3C8, .up⟩,
  ⟨61, 0x3D, some (-2), 0x3FDEBD7AF5EBD7AF, .down, 0x3EF5EBD8, .up⟩,
  ⟨62, 0x3E, some (-2), 0x3FDF3E7CF9F3E7D0, .up, 0x3EF9F3E8, .up⟩,
  ⟨63, 0x3F, some (-2), 0x3FDFBF7EFDFBF7F0, .up, 0x3EFDFBF8, .up⟩]

/-- Rows 64 to 79. -/
def laneTable12 : List TableRow := [
  ⟨64, 0x40, some (-1), 0x3FE0204081020408, .down, 0x3F010204, .down⟩,
  ⟨65, 0x41, some (-1), 0x3FE060C183060C18, .down, 0x3F03060C, .down⟩,
  ⟨66, 0x42, some (-1), 0x3FE0A142850A1428, .down, 0x3F050A14, .down⟩,
  ⟨67, 0x43, some (-1), 0x3FE0E1C3870E1C38, .down, 0x3F070E1C, .down⟩,
  ⟨68, 0x44, some (-1), 0x3FE1224489122449, .up, 0x3F091224, .down⟩,
  ⟨69, 0x45, some (-1), 0x3FE162C58B162C59, .up, 0x3F0B162C, .down⟩,
  ⟨70, 0x46, some (-1), 0x3FE1A3468D1A3469, .up, 0x3F0D1A34, .down⟩,
  ⟨71, 0x47, some (-1), 0x3FE1E3C78F1E3C79, .up, 0x3F0F1E3C, .down⟩,
  ⟨72, 0x48, some (-1), 0x3FE2244891224489, .down, 0x3F112245, .up⟩,
  ⟨73, 0x49, some (-1), 0x3FE264C993264C99, .down, 0x3F13264D, .up⟩,
  ⟨74, 0x4A, some (-1), 0x3FE2A54A952A54A9, .down, 0x3F152A55, .up⟩,
  ⟨75, 0x4B, some (-1), 0x3FE2E5CB972E5CB9, .down, 0x3F172E5D, .up⟩,
  ⟨76, 0x4C, some (-1), 0x3FE3264C993264CA, .up, 0x3F193265, .up⟩,
  ⟨77, 0x4D, some (-1), 0x3FE366CD9B366CDA, .up, 0x3F1B366D, .up⟩,
  ⟨78, 0x4E, some (-1), 0x3FE3A74E9D3A74EA, .up, 0x3F1D3A75, .up⟩,
  ⟨79, 0x4F, some (-1), 0x3FE3E7CF9F3E7CFA, .up, 0x3F1F3E7D, .up⟩]

/-- Rows 80 to 95. -/
def laneTable13 : List TableRow := [
  ⟨80, 0x50, some (-1), 0x3FE42850A142850A, .down, 0x3F214285, .down⟩,
  ⟨81, 0x51, some (-1), 0x3FE468D1A3468D1A, .down, 0x3F23468D, .down⟩,
  ⟨82, 0x52, some (-1), 0x3FE4A952A54A952A, .down, 0x3F254A95, .down⟩,
  ⟨83, 0x53, some (-1), 0x3FE4E9D3A74E9D3A, .down, 0x3F274E9D, .down⟩,
  ⟨84, 0x54, some (-1), 0x3FE52A54A952A54B, .up, 0x3F2952A5, .down⟩,
  ⟨85, 0x55, some (-1), 0x3FE56AD5AB56AD5B, .up, 0x3F2B56AD, .down⟩,
  ⟨86, 0x56, some (-1), 0x3FE5AB56AD5AB56B, .up, 0x3F2D5AB5, .down⟩,
  ⟨87, 0x57, some (-1), 0x3FE5EBD7AF5EBD7B, .up, 0x3F2F5EBD, .down⟩,
  ⟨88, 0x58, some (-1), 0x3FE62C58B162C58B, .down, 0x3F3162C6, .up⟩,
  ⟨89, 0x59, some (-1), 0x3FE66CD9B366CD9B, .down, 0x3F3366CE, .up⟩,
  ⟨90, 0x5A, some (-1), 0x3FE6AD5AB56AD5AB, .down, 0x3F356AD6, .up⟩,
  ⟨91, 0x5B, some (-1), 0x3FE6EDDBB76EDDBB, .down, 0x3F376EDE, .up⟩,
  ⟨92, 0x5C, some (-1), 0x3FE72E5CB972E5CC, .up, 0x3F3972E6, .up⟩,
  ⟨93, 0x5D, some (-1), 0x3FE76EDDBB76EDDC, .up, 0x3F3B76EE, .up⟩,
  ⟨94, 0x5E, some (-1), 0x3FE7AF5EBD7AF5EC, .up, 0x3F3D7AF6, .up⟩,
  ⟨95, 0x5F, some (-1), 0x3FE7EFDFBF7EFDFC, .up, 0x3F3F7EFE, .up⟩]

/-- Rows 96 to 111. -/
def laneTable14 : List TableRow := [
  ⟨96, 0x60, some (-1), 0x3FE83060C183060C, .down, 0x3F418306, .down⟩,
  ⟨97, 0x61, some (-1), 0x3FE870E1C3870E1C, .down, 0x3F43870E, .down⟩,
  ⟨98, 0x62, some (-1), 0x3FE8B162C58B162C, .down, 0x3F458B16, .down⟩,
  ⟨99, 0x63, some (-1), 0x3FE8F1E3C78F1E3C, .down, 0x3F478F1E, .down⟩,
  ⟨100, 0x64, some (-1), 0x3FE93264C993264D, .up, 0x3F499326, .down⟩,
  ⟨101, 0x65, some (-1), 0x3FE972E5CB972E5D, .up, 0x3F4B972E, .down⟩,
  ⟨102, 0x66, some (-1), 0x3FE9B366CD9B366D, .up, 0x3F4D9B36, .down⟩,
  ⟨103, 0x67, some (-1), 0x3FE9F3E7CF9F3E7D, .up, 0x3F4F9F3E, .down⟩,
  ⟨104, 0x68, some (-1), 0x3FEA3468D1A3468D, .down, 0x3F51A347, .up⟩,
  ⟨105, 0x69, some (-1), 0x3FEA74E9D3A74E9D, .down, 0x3F53A74F, .up⟩,
  ⟨106, 0x6A, some (-1), 0x3FEAB56AD5AB56AD, .down, 0x3F55AB57, .up⟩,
  ⟨107, 0x6B, some (-1), 0x3FEAF5EBD7AF5EBD, .down, 0x3F57AF5F, .up⟩,
  ⟨108, 0x6C, some (-1), 0x3FEB366CD9B366CE, .up, 0x3F59B367, .up⟩,
  ⟨109, 0x6D, some (-1), 0x3FEB76EDDBB76EDE, .up, 0x3F5BB76F, .up⟩,
  ⟨110, 0x6E, some (-1), 0x3FEBB76EDDBB76EE, .up, 0x3F5DBB77, .up⟩,
  ⟨111, 0x6F, some (-1), 0x3FEBF7EFDFBF7EFE, .up, 0x3F5FBF7F, .up⟩]

/-- Rows 112 to 127. -/
def laneTable15 : List TableRow := [
  ⟨112, 0x70, some (-1), 0x3FEC3870E1C3870E, .down, 0x3F61C387, .down⟩,
  ⟨113, 0x71, some (-1), 0x3FEC78F1E3C78F1E, .down, 0x3F63C78F, .down⟩,
  ⟨114, 0x72, some (-1), 0x3FECB972E5CB972E, .down, 0x3F65CB97, .down⟩,
  ⟨115, 0x73, some (-1), 0x3FECF9F3E7CF9F3E, .down, 0x3F67CF9F, .down⟩,
  ⟨116, 0x74, some (-1), 0x3FED3A74E9D3A74F, .up, 0x3F69D3A7, .down⟩,
  ⟨117, 0x75, some (-1), 0x3FED7AF5EBD7AF5F, .up, 0x3F6BD7AF, .down⟩,
  ⟨118, 0x76, some (-1), 0x3FEDBB76EDDBB76F, .up, 0x3F6DDBB7, .down⟩,
  ⟨119, 0x77, some (-1), 0x3FEDFBF7EFDFBF7F, .up, 0x3F6FDFBF, .down⟩,
  ⟨120, 0x78, some (-1), 0x3FEE3C78F1E3C78F, .down, 0x3F71E3C8, .up⟩,
  ⟨121, 0x79, some (-1), 0x3FEE7CF9F3E7CF9F, .down, 0x3F73E7D0, .up⟩,
  ⟨122, 0x7A, some (-1), 0x3FEEBD7AF5EBD7AF, .down, 0x3F75EBD8, .up⟩,
  ⟨123, 0x7B, some (-1), 0x3FEEFDFBF7EFDFBF, .down, 0x3F77EFE0, .up⟩,
  ⟨124, 0x7C, some (-1), 0x3FEF3E7CF9F3E7D0, .up, 0x3F79F3E8, .up⟩,
  ⟨125, 0x7D, some (-1), 0x3FEF7EFDFBF7EFE0, .up, 0x3F7BF7F0, .up⟩,
  ⟨126, 0x7E, some (-1), 0x3FEFBF7EFDFBF7F0, .up, 0x3F7DFBF8, .up⟩,
  ⟨127, 0x7F, some (0), 0x3FF0000000000000, .exact, 0x3F800000, .exact⟩]

/-- The table of rule R71, row by row in the order of the spec. -/
def laneTable : List TableRow :=
  laneTable00 ++ laneTable01 ++ laneTable02 ++ laneTable03 ++
  laneTable04 ++ laneTable05 ++ laneTable06 ++ laneTable07 ++
  laneTable08 ++ laneTable09 ++ laneTable10 ++ laneTable11 ++
  laneTable12 ++ laneTable13 ++ laneTable14 ++ laneTable15

/-- The columns of a format. -/
def TableRow.bits : (fmt : Fmt) → TableRow → BitVec fmt.flen
  | .b64, r => r.b64
  | .b32, r => r.b32

/-- The rounding column of a format. -/
def TableRow.rounding : Fmt → TableRow → Rounding
  | .b64, r => r.r64
  | .b32, r => r.r32

end Sys2Proof.Machine
end

