-- ==== Sys2Proof/Safety.lean ====
section
/-!
DEFINITION. The terms in which claims speak of the machine: what the ports must show, which responses are possible, what a
run must answer, and what "nearest" means.
-/

namespace Sys2Proof.Machine

/-- The relation between the ports (spec/30_encoding.md rule R38): a response is presented exactly while a request is; an
`Ok` shows status 0 and its four results, an error shows its code. Nothing is said of the wires the rule leaves
unspecified. -/
def PortsAgree (fmt : Fmt) (s : State) : Prop :=
  s.resp.valid = s.req.valid ∧
  (s.req.valid = true →
    match normPort fmt s.req with
    | .ok f => s.resp.status = 0#2 ∧ s.resp.data = f.pack
    | .err e => s.resp.status = e.code)

/-- `resp_data` has the width of the build (rule R34). -/
def RespData.ofBuild : Fmt → RespData → Bool
  | .b64, .b64 _ => true
  | .b32, .b32 _ => true
  | .b64, .b32 _ => false
  | .b32, .b64 _ => false

/-- A response the block can give (spec/60_exceptions.md rules R80, R81, R95): four results of the lanes, or
`InvalidInputLength`. -/
def Response.Possible (fmt : Fmt) : Response → Prop
  | .ok f => ∃ n : Lanes SInt8, f = laneResults fmt n
  | .err e => e = .invalidInputLength

/-- What holds in every state of a safe run: the ports agree, `resp_data` has the build's width, and the requester has had
possible responses only. -/
structure Inv (fmt : Fmt) (s : State) : Prop where
  ports : PortsAgree fmt s
  width : s.resp.data.ofBuild fmt = true
  answers : ∀ r ∈ s.received, r.Possible fmt

/-- `[Norm(q) for q in requests]` for the requests among some presentations, in order (spec/43_norm4.md rule R78). -/
def answersOf (fmt : Fmt) (script : List ReqPort) : List Response :=
  (script.filter (fun d => d.valid)).map (normPort fmt)

/-- The bits `[FLEN*i + FLEN - 1 : FLEN*i]` of `resp_data`, as a number (rule R36). -/
def RespData.laneSlice (i : Fin 4) : RespData → Nat
  | .b64 w => (w.extractLsb' (64 * i.val) 64).toNat
  | .b32 w => (w.extractLsb' (32 * i.val) 32).toNat

/-- `round_FMT(q)` is `w` (rule R57): no value of the format is nearer to `q`, and where another is as near, `w` is the one
with an even fraction. The values of the format are those to which rule R40 gives an encoding: +0 and the normal
numbers. -/
def RoundsTo (fmt : Fmt) (q : ℚ) (w : BitVec fmt.flen) : Prop :=
  hasValue fmt w = true ∧
  ∀ v : BitVec fmt.flen, hasValue fmt v = true → v ≠ w →
    |valueOf fmt w - q| < |valueOf fmt v - q| ∨
    (|valueOf fmt w - q| = |valueOf fmt v - q| ∧ fracField fmt w % 2 = 0)

/-- Which way the rounding of `x` to the value `v` went, in the words of the table of rule R71. -/
def Rounding.Holds (x v : ℚ) : Rounding → Prop
  | .down => |v| < |x|
  | .up => |x| < |v|
  | .exact => v = x ∧ v ≠ 0
  | .none => v = 0

end Sys2Proof.Machine
end

