-- ==== Sys2Proof/WellFormed.lean ====
section
/-!
DEFINITION. Which terms are well formed (spec/30_encoding.md rules R43, R44, R46).
-/

namespace Sys2Proof

/-- Every `NORM4` is well formed: "When `len = 4` all 2^32 values of `req_data` are legal" (rule R44). Its operands are
bytes by type, so there is nothing left to check. -/
def Instr.wellFormed : Instr → Bool
  | .norm4 _ _ _ _ => true

/-- A signed decimal of the request syntax lies in −128..127 (rule R46). -/
def Source.decimalOk (n : Int) : Bool := decide (-128 ≤ n) && decide (n ≤ 127)

/-- `NORM4 [e, a, w, f]` takes four signed decimals in −128..127; `REQ len, W` a 3-bit length and 32 bits of data
(rules R35, R46). -/
def Source.wellFormed : Source → Bool
  | .norm4 e a w f => decimalOk e && decimalOk a && decimalOk w && decimalOk f
  | .req len data => decide (len < 8) && decide (data < 4294967296)

/-- A buffer is well formed when it "contain[s] exactly 4 bytes" (rules R25, R41). -/
def Buffer.wellFormed (buf : Buffer) : Bool := buf.length == Config.bufLen

end Sys2Proof
end

