-- ==== Sys2Proof/Certificates/Slice0/Obligations.lean ====
section
/-!
DEFINITION. The statements about the model, for the provers. Each docstring says which sentence of the spec it formalises.
A rule the spec marks "[derived]" is named in the docstring and not among the statement's cites.
-/

open Sys2Proof Sys2Proof.Machine

/-! ### Requests and their encoding -/

/-- Decoding an encoded well-formed instruction gives it back, and a word that decodes is the encoding of what it decodes
to: no bit of a request is dropped and no two words stand for one NORM4 (30_encoding.md sections 2 and 5). -/
def Obligations.DecodeAndEncodeAgree : Prop :=
  (∀ i : Instr, i.wellFormed = true → decode (encode i) = .ok i) ∧
  (∀ (w : ReqWord) (i : Instr), decode w = .ok i → encode i = w)

/-- Rule R41: "A request selects NORM4 when and only when its `len` field is 4", in match and mask form, with the
numbers of spec/opcode_table.json; nothing else is an operation. -/
def Obligations.LengthFourSelectsNorm4 : Prop :=
  ∀ w : ReqWord,
    ((∃ b0 b1 b2 b3 : Byte, decode w = .ok (.norm4 b0 b1 b2 b3)) ↔ w &&& 0x700000000#35 = 0x400000000#35) ∧
    (w &&& 0x700000000#35 = 0x400000000#35 ↔ w.extractLsb' 32 3 = 4#3) ∧
    (w.extractLsb' 32 3 ≠ 4#3 → ∃ r, decode w = .error r)

/-- Rule R35: the field positions of `REQ = {req_len, req_data}`, and that the decoder takes each operand from its own
field. -/
def Obligations.RequestFieldsStandWhereRuleR35PutsThem : Prop :=
  ∀ d : ReqPort,
    d.word.extractLsb' 32 3 = d.len ∧ d.word.extractLsb' 0 32 = d.data ∧
    (d.len = 4#3 →
      decode d.word = .ok (.norm4 (d.word.extractLsb' 0 8) (d.word.extractLsb' 8 8)
        (d.word.extractLsb' 16 8) (d.word.extractLsb' 24 8)))

/-- Rule R24: `W = buf[0] | (buf[1] << 8) | (buf[2] << 16) | (buf[3] << 24)`, and byte offset `i` occupies
`W[8*i+7 : 8*i]`. -/
def Obligations.WordViewIsLittleEndian : Prop :=
  ∀ (b0 b1 b2 b3 : Byte) (spare : ReqData),
    let W := (ReqPort.ofBuffer [b0, b1, b2, b3] spare).data
    W = b0.zeroExtend 32 ||| (b1.zeroExtend 32 <<< 8) ||| (b2.zeroExtend 32 <<< 16) ||| (b3.zeroExtend 32 <<< 24) ∧
    W.extractLsb' 0 8 = b0 ∧ W.extractLsb' 8 8 = b1 ∧ W.extractLsb' 16 8 = b2 ∧ W.extractLsb' 24 8 = b3

/-- `NORM4 [e, a, w, f]` stands for a request whose four bytes read as `e, a, w, f`, and `REQ len, W` for the request with
those fields (30_encoding.md section 7, the request syntax of rule R46). -/
def Obligations.RequestSyntaxAssembles : Prop :=
  (∀ e a w f : Int, (Source.norm4 e a w f).wellFormed = true →
    ∃ b0 b1 b2 b3 : Byte, decode (Source.norm4 e a w f).assemble = .ok (.norm4 b0 b1 b2 b3) ∧
      (sint8 b0).val = e ∧ (sint8 b1).val = a ∧ (sint8 b2).val = w ∧ (sint8 b3).val = f) ∧
  (∀ len data : Nat, (Source.req len data).wellFormed = true →
    ((Source.req len data).assemble.extractLsb' 32 3).toNat = len ∧
    ((Source.req len data).assemble.extractLsb' 0 32).toNat = data)

/-- Words written out in 95_test_vectors.md section 2.5 decode as its table says. -/
def Obligations.WordsOfTheSpecDecode : Prop :=
  decode 0x44000817F#35 = .ok (.norm4 0x7F#8 0x81#8 0x00#8 0x40#8) ∧
  decode 0x4FFFFFFFF#35 = .ok (.norm4 0xFF#8 0xFF#8 0xFF#8 0xFF#8) ∧
  decode 0x34000817F#35 = .error (.illegalLength 3#3) ∧
  decode 0x54000817F#35 = .error (.illegalLength 5#3) ∧
  decode 0x000000004#35 = .error (.illegalLength 0#3) ∧
  decode 0x7FFFFFFFF#35 = .error (.illegalLength 7#3)

/-! ### The request buffer -/

/-- The request buffer has the offsets 0 to 3 and no other, each with its byte of the request, exactly while a request of
length 4 is presented (20_memory.md section 1; 00_scope.md section 6, the row `MemRead`). -/
def Obligations.RequestBufferHasFourOffsets : Prop :=
  ∀ (s : State) (a : Nat),
    (s.req.valid = true → s.req.len = 4#3 → a < 4 → s.memRead a = some (s.req.data.extractLsb' (8 * a) 8)) ∧
    (s.req.valid = false ∨ s.req.len ≠ 4#3 ∨ 4 ≤ a → s.memRead a = none)

/-- "The block writes nothing anywhere" (20_memory.md section 5, rule R30): after a step the request ports, and every byte of
the request buffer, are what the requester presents. That a step takes exactly one entry off the requester's script is the
model's choice (notes/assumptions/2.md), not the rule's. -/
def Obligations.StepWritesNothingToTheRequest : Prop :=
  ∀ s t : State, step s = .next t →
    t.req = s.present.req ∧ t.script = s.script.tail ∧ ∀ a, t.memRead a = s.present.memRead a

/-! ### UNPACK4 -/

/-- Rule R48: `n[i] = sint8(buf[i])` with `buf[i] = req_data[8*i+7 : 8*i]`, and `sint8` by the two ranges of a byte. -/
def Obligations.UnpackReadsSignedBytesInOrder : Prop :=
  (∀ (data : ReqData) (i : Fin 4),
    (unpack4 (dataBytes data)).get i = sint8 (data.extractLsb' (8 * i.val) 8)) ∧
  (∀ b : Byte, (b.toNat ≤ 127 → (sint8 b).val = b.toNat) ∧ (128 ≤ b.toNat → (sint8 b).val = (b.toNat : Int) - 256))

/-- Every signed 8-bit integer is the reading of exactly one byte: `sint8` is a bijection (40_unpack.md, rule R50, which
the spec marks derived). -/
def Obligations.SignedReadingIsABijection : Prop :=
  ∀ n : SInt8, ∃! b : Byte, sint8 b = n

/-! ### I8TOFP and FDIV127 -/

/-- Rule R55: "I8TOFP converts the signed integer `n` to the value of format `FMT` equal to `n`", exactly, and
`I8TOFP(0) = +0`. -/
def Obligations.ConversionToFloatIsExact : Prop :=
  ∀ (fmt : Fmt) (n : SInt8),
    hasValue fmt (i8tofp fmt n).bits = true ∧ valueOf fmt (i8tofp fmt n).bits = (n.val : ℚ) ∧
    (n.val = 0 → (i8tofp fmt n).bits = plusZero fmt)

/-- `lane(n) = FDIV127(I8TOFP(n)) = round_FMT(n / 127)` (41_fdiv127.md sections 1 and 3, rules R53 and R57): the result is the
one and only rounding of the exact quotient in the sense of rule R57, among the values of the format. Which encodings are
values of the format (+0 and the normal numbers; −0 and subnormals are none) is the model's reading of rule R40,
notes/assumptions/6.md. -/
def Obligations.LaneIsTheQuotientRoundedToNearest : Prop :=
  ∀ (fmt : Fmt) (n : SInt8),
    lane fmt n = fdiv127 fmt (i8tofp fmt n) ∧
    ∀ w : BitVec fmt.flen, RoundsTo fmt ((n.val : ℚ) / 127) w ↔ w = lane fmt n

/-- No tie occurs: two different values of the format that are equally near to a quotient `n / 127` are not the nearest
ones, so the tie rule cannot be observed (41_fdiv127.md section 3, rule R59, which the spec marks derived). Which encodings
are values of the format is the model's reading of rule R40, notes/assumptions/6.md. -/
def Obligations.NoQuotientIsATie : Prop :=
  ∀ (fmt : Fmt) (n : SInt8) (v w : BitVec fmt.flen),
    hasValue fmt v = true → hasValue fmt w = true → v ≠ w →
    |valueOf fmt v - (n.val : ℚ) / 127| = |valueOf fmt w - (n.val : ℚ) / 127| →
    ∃ u : BitVec fmt.flen, hasValue fmt u = true ∧
      |valueOf fmt u - (n.val : ℚ) / 127| < |valueOf fmt v - (n.val : ℚ) / 127|

/-- Rule R60: `lane(0) = +0`, all bits zero, in both formats, and the block never produces −0. -/
def Obligations.ZeroGivesPlusZeroOnly : Prop :=
  ∀ n : SInt8,
    (n.val = 0 → lane .b64 n = 0x0000000000000000#64 ∧ lane .b32 n = 0x00000000#32) ∧
    lane .b64 n ≠ 0x8000000000000000#64 ∧ lane .b32 n ≠ 0x80000000#32

/-- Rule R64: −128 is answered, not clamped; it alone lies outside [−1, 1]. -/
def Obligations.MinusOneHundredTwentyEightIsNotClamped : Prop :=
  ∀ n : SInt8,
    (n.val = -128 → lane .b64 n = 0xBFF0204081020408#64 ∧ lane .b32 n = 0xBF810204#32) ∧
    (∀ fmt : Fmt, (n.val = -128 → valueOf fmt (lane fmt n) < -1) ∧
      (-127 ≤ n.val → -1 ≤ valueOf fmt (lane fmt n) ∧ valueOf fmt (lane fmt n) ≤ 1))

/-- The exponent field of a non-zero result is `e + BIAS` with `e` in −7..0 and `127 * 2^e ≤ |n| < 127 * 2^(e+1)`, the
significand needs no renormalisation, and the sign is the integer's: no overflow, underflow, subnormal, infinity or NaN
(41_fdiv127.md section 3, rules R58, R61 and R65, which the spec marks derived). -/
def Obligations.NonZeroResultsAreNormalInEightBinades : Prop :=
  ∀ (fmt : Fmt) (n : SInt8), n.val ≠ 0 →
    ∃ e : ℤ, -7 ≤ e ∧ e ≤ 0 ∧
      127 * (2 : ℚ) ^ e ≤ |(n.val : ℚ)| ∧ |(n.val : ℚ)| < 127 * (2 : ℚ) ^ (e + 1) ∧
      (expField fmt (lane fmt n) : ℤ) = e + fmt.bias ∧
      isNormal fmt (lane fmt n) = true ∧
      (signField fmt (lane fmt n) = 1 ↔ n.val < 0) ∧
      2 ^ (fmt.prec - 1) ≤ roundedQuotient fmt n.val.natAbs ∧ roundedQuotient fmt n.val.natAbs < 2 ^ fmt.prec

/-- For `1 ≤ a ≤ 127`, `lane_bits(-a) = lane_bits(a) + 2^(FLEN-1)` (41_fdiv127.md section 3, rule R62, which the spec marks
derived). -/
def Obligations.NegationSetsTheSignBit : Prop :=
  ∀ (fmt : Fmt) (n m : SInt8), 1 ≤ n.val → m.val = -n.val →
    (lane fmt m).toNat = (lane fmt n).toNat + 2 ^ (fmt.flen - 1)

/-- The result is exact for exactly −127, 0 and 127, where it is −1, +0 and 1 (41_fdiv127.md section 3, rule R63, which the
spec marks derived). -/
def Obligations.ExactlyThreeInputsAreExact : Prop :=
  ∀ (fmt : Fmt) (n : SInt8),
    (valueOf fmt (lane fmt n) = (n.val : ℚ) / 127 ↔ n.val = -127 ∨ n.val = 0 ∨ n.val = 127) ∧
    (valueOf fmt (lane fmt n) = 1 ↔ n.val = 127) ∧ (valueOf fmt (lane fmt n) = -1 ↔ n.val = -127)

/-- Half a unit in the last place: `|lane(n) - n/127| ≤ 2^-P * |n/127|` (41_fdiv127.md section 4, rule R69 (a), which the
spec marks derived). -/
def Obligations.ErrorIsAtMostHalfAUnit : Prop :=
  ∀ (fmt : Fmt) (n : SInt8),
    |valueOf fmt (lane fmt n) - (n.val : ℚ) / 127| ≤ |(n.val : ℚ) / 127| / 2 ^ fmt.prec

/-- `lane` is strictly increasing in both formats (41_fdiv127.md section 4, rule R69 (c), which the spec marks derived). -/
def Obligations.LaneIsStrictlyIncreasing : Prop :=
  ∀ (fmt : Fmt) (m n : SInt8), m.val < n.val → valueOf fmt (lane fmt m) < valueOf fmt (lane fmt n)

/-- The binary32 result is the binary64 result rounded to nearest into binary32: rounding once or twice agrees
(41_fdiv127.md section 4, rule R69 (d), which the spec marks derived). Which encodings are values of binary32 is the model's
reading of rule R40, notes/assumptions/6.md. -/
def Obligations.SingleIsTheDoubleResultRounded : Prop :=
  ∀ (n : SInt8) (w : BitVec 32), RoundsTo .b32 (valueOf .b64 (lane .b64 n)) w ↔ w = lane .b32 n

/-- Doubling an input keeps the fraction and raises the exponent by one, up to 126, and −64 and −128 likewise
(41_fdiv127.md section 4, rule R70, which the spec marks derived; 95_test_vectors.md section 2.3, check (c)). -/
def Obligations.DoublingKeepsTheFraction : Prop :=
  ∀ (fmt : Fmt) (n m : SInt8), (1 ≤ n.val ∧ n.val ≤ 63) ∨ n.val = -64 → m.val = 2 * n.val →
    fracField fmt (lane fmt m) = fracField fmt (lane fmt n) ∧
    expField fmt (lane fmt m) = expField fmt (lane fmt n) + 1

/-- The table of 42_fdiv127_table.md is the lane: it has 256 rows, and the row of every signed byte gives its byte, its
exponent, its result in both formats, and which way the rounding went (rule R71, which the spec marks derived). -/
def Obligations.TableOfRuleR71IsTheLane : Prop :=
  laneTable.length = 256 ∧
  ∀ n : SInt8, ∃ row ∈ laneTable, row.n = n.val ∧ sint8 row.byte = n ∧
    row.e = (if n.val = 0 then none else some (quotientExp n.val.natAbs)) ∧
    ∀ fmt : Fmt, row.bits fmt = lane fmt n ∧
      (row.rounding fmt).Holds ((n.val : ℚ) / 127) (valueOf fmt (lane fmt n))

/-! ### NORM4 -/

/-- Rule R72, the total function `Norm`: four bytes give `Ok` with one lane each, in order; every other length gives
`InvalidInputLength`; a presented request is answered so, selected by its length field; the instruction completes in every
state with those results at the ports. -/
def Obligations.Norm4AnswersFourLanes : Prop :=
  (∀ (fmt : Fmt) (buf : Buffer), buf.length ≠ 4 → normBuffer fmt buf = .err .invalidInputLength) ∧
  (∀ b0 b1 b2 b3 : Byte,
    normBuffer .b64 [b0, b1, b2, b3] = .ok (.b64 ⟨fdiv127 .b64 (i8tofp .b64 (sint8 b0)), fdiv127 .b64 (i8tofp .b64 (sint8 b1)),
      fdiv127 .b64 (i8tofp .b64 (sint8 b2)), fdiv127 .b64 (i8tofp .b64 (sint8 b3))⟩) ∧
    normBuffer .b32 [b0, b1, b2, b3] = .ok (.b32 ⟨fdiv127 .b32 (i8tofp .b32 (sint8 b0)), fdiv127 .b32 (i8tofp .b32 (sint8 b1)),
      fdiv127 .b32 (i8tofp .b32 (sint8 b2)), fdiv127 .b32 (i8tofp .b32 (sint8 b3))⟩)) ∧
  (∀ (b0 b1 b2 b3 : Byte) (s : State), ∃ f : Results, ∃ t : State,
    normBuffer Config.fmt [b0, b1, b2, b3] = .ok f ∧ exec (.norm4 b0 b1 b2 b3) s = .next t ∧
    t.resp = ⟨true, 0#2, f.pack⟩ ∧ t.received = s.received ++ [.ok f]) ∧
  (∀ (s : State) (d : ReqPort) (rest : List ReqPort), s.script = d :: rest → d.valid = true →
    ∃ t : State, step s = .next t ∧
      (d.len = 4#3 → t.received = s.received ++ [normBuffer Config.fmt [d.data.extractLsb' 0 8, d.data.extractLsb' 8 8,
        d.data.extractLsb' 16 8, d.data.extractLsb' 24 8]]) ∧
      (d.len ≠ 4#3 → t.received = s.received ++ [.err .invalidInputLength]))

/-- NORM4 completes in every state, in both builds, for every four bytes, and this is the whole next state: only the
response ports and the requester's record change (43_norm4.md section NORM4; 10_state.md section 1). -/
def Obligations.Norm4CompletesWithThisState : Prop :=
  (∀ (b0 b1 b2 b3 : Byte) (s : State),
    exec (.norm4 b0 b1 b2 b3) s = .next
      { script := s.script
        req := s.req
        resp := ⟨true, 0#2, .b64 (lane .b64 (sint8 b3) ++ lane .b64 (sint8 b2) ++ lane .b64 (sint8 b1) ++ lane .b64 (sint8 b0))⟩
        received := s.received ++ [.ok (.b64 ⟨lane .b64 (sint8 b0), lane .b64 (sint8 b1), lane .b64 (sint8 b2), lane .b64 (sint8 b3)⟩)]
        draws := s.draws }) ∧
  (∀ (b0 b1 b2 b3 : Byte) (s : State),
    execOf .b32 (.norm4 b0 b1 b2 b3) s = .next
      { script := s.script
        req := s.req
        resp := ⟨true, 0#2, .b32 (lane .b32 (sint8 b3) ++ lane .b32 (sint8 b2) ++ lane .b32 (sint8 b1) ++ lane .b32 (sint8 b0))⟩
        received := s.received ++ [.ok (.b32 ⟨lane .b32 (sint8 b0), lane .b32 (sint8 b1), lane .b32 (sint8 b2), lane .b32 (sint8 b3)⟩)]
        draws := s.draws })

/-- The frame of NORM4: it leaves the requester's script, the request ports, every byte of the request buffer, the earlier
responses and the count of free values as they were (10_state.md section 1; 20_memory.md section 5). The script and the
count are the model's own fields (notes/assumptions/1.md, notes/assumptions/3.md). -/
def Obligations.Norm4Frame : Prop :=
  ∀ (b0 b1 b2 b3 : Byte) (s t : State), exec (.norm4 b0 b1 b2 b3) s = .next t →
    t.script = s.script ∧ t.req = s.req ∧ t.draws = s.draws ∧ (∀ a, t.memRead a = s.memRead a) ∧
    s.received <+: t.received ∧ t.received.length = s.received.length + 1

/-- Rule R36: lane `i` of `resp_data` stands in bits `[FLEN*i + FLEN - 1 : FLEN*i]`, in both formats. -/
def Obligations.ResponseLanesStandWhereRuleR36PutsThem : Prop :=
  (∀ (f : Lanes (BitVec 64)) (i : Fin 4), ∃ w : BitVec 256,
    (Results.b64 f).pack = .b64 w ∧ w.extractLsb' (64 * i.val) 64 = f.get i) ∧
  (∀ (f : Lanes (BitVec 32)) (i : Fin 4), ∃ w : BitVec 128,
    (Results.b32 f).pack = .b32 w ∧ w.extractLsb' (32 * i.val) 32 = f.get i)

/-- Rule R68: a lane's result depends on its byte and the format only; not on the other lanes, the lane's index, earlier
transactions or time. Equal bytes, in whatever lanes of whatever two requests in whatever two states, give bit-identical
results. -/
def Obligations.EqualBytesGiveEqualLanes : Prop :=
  ∀ (fmt : Fmt) (s s' t t' : State) (i j : Fin 4),
    stepOf fmt s = .next t → stepOf fmt s' = .next t' →
    s.present.req.valid = true → s.present.req.len = 4#3 →
    s'.present.req.valid = true → s'.present.req.len = 4#3 →
    s.present.req.data.extractLsb' (8 * i.val) 8 = s'.present.req.data.extractLsb' (8 * j.val) 8 →
    t.resp.data.laneSlice i = t'.resp.data.laneSlice j

/-- A buffer of any length, presented with its length saturated at 7 and whatever bits where it has no byte, is answered at
the ports as the transaction level says, so nothing is lost by the ports (30_encoding.md section 2, rule R39, whose "so
saturation loses nothing" the spec marks derived). That a step presents the first entry of the script is the model's choice,
notes/assumptions/2.md. -/
def Obligations.PortsAnswerAsNormOfTheBuffer : Prop :=
  ∀ (fmt : Fmt) (buf : Buffer) (spare : ReqData) (rest : List ReqPort) (s : State),
    (ReqPort.ofBuffer buf spare).len.toNat = min buf.length 7 ∧
    (buf.length ≠ 4 → normBuffer fmt buf = .err .invalidInputLength) ∧
    (s.script = ReqPort.ofBuffer buf spare :: rest →
      ∃ t : State, stepOf fmt s = .next t ∧ t.received = s.received ++ [normBuffer fmt buf] ∧
        t.resp.valid = true ∧ t.resp.status = (normBuffer fmt buf).status)

/-! ### Errors -/

/-- Rules R43 and R74: a request whose length is not 4 is illegal and is answered `InvalidInputLength`, status 1, with no
result, whatever `req_data` holds; the decoder rejects it by its length, and accepts every request of length 4. -/
def Obligations.IllegalRequestIsAnswered : Prop :=
  ∀ (s : State) (d : ReqPort) (rest : List ReqPort), s.script = d :: rest → d.valid = true →
    (d.len = 4#3 → ∃ b0 b1 b2 b3 : Byte, decode d.word = .ok (.norm4 b0 b1 b2 b3)) ∧
    (d.len ≠ 4#3 → decode d.word = .error (.illegalLength d.len) ∧
      ∃ t : State, step s = .next t ∧ t.resp.valid = true ∧ t.resp.status = 1#2 ∧
        t.received = s.received ++ [.err .invalidInputLength])

/-- Rule R79: `InvalidInputLength`, status code 1, is raised by every request with `len != 4` and by nothing else. -/
def Obligations.LengthErrorIsRaisedByNothingElse : Prop :=
  ErrorCode.invalidInputLength.code = 1#2 ∧
  ∀ s t : State, step s = .next t →
    (t.received = s.received ++ [.err .invalidInputLength] ↔ t.req.valid = true ∧ t.req.len ≠ 4#3)

/-- Rules R37 and R80: while a response is presented its status is 0 with the four results of the response on `resp_data`,
or 1 for `InvalidInputLength`; 2, the code of `InvalidEncoding`, and 3 are never produced. -/
def Obligations.StatusIsOkOrInvalidInputLength : Prop :=
  ErrorCode.invalidInputLength.code = 1#2 ∧ ErrorCode.invalidEncoding.code = 2#2 ∧
  ∀ s t : State, step s = .next t → t.resp.valid = true →
    (t.resp.status = 0#2 ∧ ∃ f : Results, t.received = s.received ++ [.ok f] ∧ t.resp.data = f.pack) ∨
    (t.resp.status = 1#2 ∧ t.received = s.received ++ [.err .invalidInputLength])

/-- Error entry (60_exceptions.md section 4, rule R84): raising an error shows its code, gives `Err` without any value, and
changes nothing else. Three clauses are the model's, not the rule's: the script loses that one entry
(notes/assumptions/2.md), the count of free values rises by one and nothing is claimed of `resp_data` but its width
(notes/assumptions/3.md), and a request of another length has no buffer address to read (notes/assumptions/10.md). -/
def Obligations.RaisingAnErrorChangesNothingElse : Prop :=
  ∀ (s : State) (d : ReqPort) (rest : List ReqPort) (t : State),
    s.script = d :: rest → d.valid = true → d.len ≠ 4#3 → step s = .next t →
    t.resp.valid = true ∧ t.resp.status = ErrorCode.invalidInputLength.code ∧
    t.script = rest ∧ t.req = d ∧ (∀ a, t.memRead a = none) ∧
    t.received = s.received ++ [.err .invalidInputLength] ∧ t.draws = s.draws + 1 ∧
    t.resp.data.ofBuild Config.fmt = true

/-! ### The step -/

/-- A step in which a request that decodes is presented is the meaning of the decoded instruction, at the state in which
that request stands at the ports ("given a request, produce `Norm(request)`", 43_norm4.md section "How a model steps it").
That requests come from a script, and that the presented one is taken off it (`script := rest`), is the model's choice,
notes/assumptions/2.md. -/
def Obligations.StepRunsTheDecodedInstruction : Prop :=
  ∀ (s : State) (d : ReqPort) (rest : List ReqPort) (i : Instr),
    s.script = d :: rest → d.valid = true → decode d.word = .ok i →
    step s = exec i { s with script := rest, req := d }

/-- A word placed as the next request is the one the next step runs; everything else of the state stays (the model's own
way to load a request, notes/assumptions/2.md). -/
def Obligations.PlacedWordRunsNext : Prop :=
  ∀ (s : State) (w : Nat) (i : Instr), decodeTableWord 40 w = some i → w < 2 ^ 35 →
    step (s.withFetchWord 40 w) =
      exec i { s with script := s.script.tail, req := ReqPort.ofWord (BitVec.ofNat 35 w) }

/-- Without a request `resp_valid` is 0 and nothing is answered (70_reset_and_hazards.md section 1). That such an instant is
an entry taken off the script, or an empty script, and that the other request wires hold when nothing is left to present, is
the model's choice, notes/assumptions/2.md. -/
def Obligations.WithoutARequestNothingIsAnswered : Prop :=
  ∀ s : State, s.present.req.valid = false →
    ∃ t : State, step s = .next t ∧ t.resp.valid = false ∧ t.received = s.received ∧ t.req = s.present.req ∧
      t.script = s.script.tail

/-- "No agent is ever stuck, and no request is refused": every step of either build answers a next state, from every state
(60_exceptions.md, rule R95, and 43_norm4.md, rule R75, which the spec marks derived). -/
def Obligations.EveryStepAnswersANextState : Prop :=
  (∀ s : State, ∃ t : State, step s = .next t) ∧ ∀ (fmt : Fmt) (s : State), ∃ t : State, stepOf fmt s = .next t

/-- The machine is the binary64 build of the machine that takes the format as its argument (00_scope.md section 4;
notes/assumptions/5.md). -/
def Obligations.TheMachineIsTheB64Build : Prop :=
  Config.fmt = .b64 ∧ (∀ s : State, step s = stepOf .b64 s) ∧ (∀ (i : Instr) (s : State), exec i s = execOf .b64 i s) ∧
  State.reset = State.resetOf .b64

/-- Rule R38, the relation between the ports, after every step of either build, from every state. -/
def Obligations.PortsAgreeAfterEveryStep : Prop :=
  ∀ (fmt : Fmt) (s t : State), stepOf fmt s = .next t → PortsAgree fmt t

/-- Every step keeps the invariant: the ports agree, `resp_data` has the build's width, and the requester has had no
response but four results of the lanes or `InvalidInputLength` (30_encoding.md section 3; 60_exceptions.md section 1). -/
def Obligations.EveryStepKeepsTheInvariant : Prop :=
  (∀ s t : State, Inv Config.fmt s → step s = .next t → Inv Config.fmt t) ∧
  ∀ (fmt : Fmt) (s t : State), Inv fmt s → stepOf fmt s = .next t → Inv fmt t

/-- The invariant holds right after power-up, in either build, with no request and no response presented
(70_reset_and_hazards.md section 1; that no request is presented is the model's choice, notes/assumptions/4.md). -/
def Obligations.InvariantHoldsAtReset : Prop :=
  Inv Config.fmt State.reset ∧ (∀ fmt : Fmt, Inv fmt (State.resetOf fmt)) ∧
  State.reset.resp.valid = State.reset.req.valid ∧ State.reset.req.valid = false ∧ State.reset.received = []

/-! ### Runs -/

/-- Rule R78: a run answers the requester's requests with `[Norm(q) for q in requests]`, in the same order, one response
each, whatever was presented before and whatever idle instants stand between; nothing is pending afterwards. That a run is a
script of which one entry is presented a step, and that an entry may be an instant without a request, is the model's choice,
notes/assumptions/2.md. -/
def Obligations.RunAnswersEachRequestInOrder : Prop :=
  ∀ (fmt : Fmt) (s : State), ∃ t : State, runOf fmt s.script.length s = .next t ∧
    t.script = [] ∧ t.received = s.received ++ answersOf fmt s.script

/-- Rule R27: "Presenting the same request any number of times, in any order among other requests, gives the same response
each time." Two states that agree on nothing but the presented request get the same response, the same status, and on
success the same data; and reading the buffer has no side effect: the request stands as it was presented. -/
def Obligations.ResponseDependsOnTheRequestAlone : Prop :=
  ∀ (fmt : Fmt) (s s' t t' : State), s.present.req = s'.present.req → s.present.req.valid = true →
    stepOf fmt s = .next t → stepOf fmt s' = .next t' →
    (∃ r : Response, t.received = s.received ++ [r] ∧ t'.received = s'.received ++ [r]) ∧
    t.resp.valid = t'.resp.valid ∧ t.resp.status = t'.resp.status ∧
    (t.resp.status = 0#2 → t.resp.data = t'.resp.data) ∧
    t.req = s.present.req ∧ ∀ a, t.memRead a = s.present.memRead a

/-- An error leaves no trace: the requests after an illegal one get the responses they would have had without it
(60_exceptions.md section 5, rule R87, which the spec marks derived). That a run is a script of which one entry is presented
a step is the model's choice, notes/assumptions/2.md. -/
def Obligations.ErrorLeavesNoTrace : Prop :=
  ∀ (fmt : Fmt) (s s' t t' : State) (d : ReqPort) (rest : List ReqPort),
    d.valid = true → d.len ≠ 4#3 → s.script = d :: rest → s' = { s with script := rest } →
    runOf fmt (rest.length + 1) s = .next t → runOf fmt rest.length s' = .next t' →
    ∃ rs : List Response, t.received = s.received ++ .err .invalidInputLength :: rs ∧ t'.received = s'.received ++ rs
end

