-- ==== Sys2Proof/Laws/Decode.lean ====
section
/-!
SUPPORT. The fields of a request, of its encoding and of the request ports; what the decoder answers.
-/

namespace Sys2Proof

/-- The length field of an encoded NORM4 is 4. -/
theorem lenField_encode (b0 b1 b2 b3 : Byte) : lenField (encode (.norm4 b0 b1 b2 b3)) = 4#3 := by
  simp only [lenField, encode]
  ext i hi
  simp only [BitVec.getElem_extractLsb', BitVec.getLsbD_append]
  interval_cases i <;> simp

/-- The data field of an encoded NORM4 is its four bytes, the first one lowest. -/
theorem dataField_encode (b0 b1 b2 b3 : Byte) :
    dataField (encode (.norm4 b0 b1 b2 b3)) = b3 ++ b2 ++ b1 ++ b0 := by
  simp only [dataField, encode]
  refine BitVec.eq_of_getLsbD_eq fun i hi => ?_
  simp only [BitVec.getLsbD_extractLsb', BitVec.getLsbD_append]
  interval_cases i <;> simp

/-- Byte `i` of a carrier laid out highest byte first. -/
theorem dataByte_append (b0 b1 b2 b3 : Byte) (i : Fin 4) :
    dataByte (b3 ++ b2 ++ b1 ++ b0) i = (⟨b0, b1, b2, b3⟩ : Lanes Byte).get i := by
  fin_cases i <;>
    (simp only [dataByte, Lanes.get]
     ext k hk
     simp only [BitVec.getElem_extractLsb', BitVec.getLsbD_append]
     interval_cases k <;> simp)

/-- A carrier is its four bytes. -/
theorem append_dataBytes (data : ReqData) :
    dataByte data 3 ++ dataByte data 2 ++ dataByte data 1 ++ dataByte data 0 = data := by
  ext k hk
  simp only [dataByte, BitVec.getElem_append]
  interval_cases k <;> simp

/-- A request is its two fields. -/
theorem append_fields (w : ReqWord) : lenField w ++ dataField w = w := by
  ext k hk
  simp only [lenField, dataField, BitVec.getElem_append]
  interval_cases k <;> simp

/-- The decoder answers NORM4 with the four byte fields where the length is 4. -/
theorem decode_legal {w : ReqWord} (h : lenField w = 4#3) :
    decode w = .ok (.norm4 (dataByte (dataField w) 0) (dataByte (dataField w) 1)
      (dataByte (dataField w) 2) (dataByte (dataField w) 3)) := if_pos h

/-- The decoder rejects every other length by name. -/
theorem decode_illegal {w : ReqWord} (h : lenField w ≠ 4#3) : decode w = .error (.illegalLength (lenField w)) :=
  if_neg h

namespace Machine

@[simp] theorem lenField_word (d : ReqPort) : lenField d.word = d.len := by
  simp only [lenField, ReqPort.word]
  ext k hk
  simp only [BitVec.getElem_extractLsb', BitVec.getLsbD_append]
  interval_cases k <;> simp

@[simp] theorem dataField_word (d : ReqPort) : dataField d.word = d.data := by
  simp only [dataField, ReqPort.word]
  ext k hk
  simp only [BitVec.getElem_extractLsb', BitVec.getLsbD_append]
  interval_cases k <;> simp

@[simp] theorem ofWord_word (w : ReqWord) : (ReqPort.ofWord w).word = w := append_fields w

/-- The byte that carries buffer offset `i`. -/
theorem dataByte_ofBuffer (buf : Buffer) (spare : ReqData) (i : Fin 4) :
    dataByte (ReqPort.ofBuffer buf spare).data i = carriedByte buf spare i := by
  rw [ReqPort.ofBuffer, dataByte_append]
  fin_cases i <;> rfl

end Machine
end Sys2Proof
end

