-- ==== Sys2Proof/Laws/Format.lean ====
section
/-!
SUPPORT. The fields of an encoding and the value of a normal number (spec/30_encoding.md rule R40).
-/

namespace Sys2Proof.Machine

/-- The widths of the three fields. -/
theorem fields_lt (fmt : Fmt) (w : BitVec fmt.flen) :
    signField fmt w ≤ 1 ∧ expField fmt w < 2 ^ fmt.expWidth ∧ fracField fmt w < 2 ^ (fmt.prec - 1) := by
  have := w.isLt
  cases fmt <;> simp only [signField, expField, fracField] at * <;> norm_num at * <;> omega

/-- An encoding is its three fields. -/
theorem toNat_eq_fields (fmt : Fmt) (w : BitVec fmt.flen) :
    w.toNat = signField fmt w * 2 ^ (fmt.flen - 1) + expField fmt w * 2 ^ (fmt.prec - 1) + fracField fmt w := by
  have := w.isLt
  cases fmt <;> simp only [signField, expField, fracField] at * <;> norm_num at * <;> omega

/-- +0 is not a normal number. -/
theorem isNormal_plusZero (fmt : Fmt) : isNormal fmt (plusZero fmt) = false := by cases fmt <;> decide

/-- A normal number is an integer significand of `P` bits, scaled. -/
theorem valueOf_normal {fmt : Fmt} {w : BitVec fmt.flen} (h : isNormal fmt w = true) :
    valueOf fmt w = (-1) ^ signField fmt w * ((2 ^ (fmt.prec - 1) + fracField fmt w : ℕ) : ℚ) *
      2 ^ ((expField fmt w : ℤ) - fmt.bias - ((fmt.prec - 1 : ℕ) : ℤ)) := by
  have hz : w ≠ plusZero fmt := by
    rintro rfl
    simp [isNormal_plusZero] at h
  rw [valueOf, if_neg hz, zpow_sub₀ (by norm_num) _ ((fmt.prec - 1 : ℕ) : ℤ), zpow_natCast]
  push_cast
  field_simp

end Sys2Proof.Machine
end

