-- ==== Sys2Proof/Laws/Lane.lean ====
section
/-!
SUPPORT. Small facts about bytes and lanes that proofs by cases over the 256 inputs use.
-/

namespace Sys2Proof.Machine

/-- A signed byte by its place from the bottom of the range. -/
def SInt8.ofFin (k : Fin 256) : SInt8 := ⟨(k.val : Int) - 128, by omega⟩

/-- A statement about every signed byte is one about the 256 of them. -/
theorem forall_sint8 {P : SInt8 → Prop} : (∀ n, P n) ↔ ∀ k : Fin 256, P (SInt8.ofFin k) := by
  refine ⟨fun h k => h _, fun h n => ?_⟩
  have := n.property
  have hk : n = SInt8.ofFin ⟨(n.val + 128).toNat, by omega⟩ := by
    apply Subtype.ext
    simp only [SInt8.ofFin]
    omega
  exact hk ▸ h _

/-- Bit 7 clear: the byte itself. -/
theorem sint8_low {b : Byte} (h : b.toNat < 128) : (sint8 b).val = b.toNat := by simp [sint8, h]

/-- Bit 7 set: 256 less. -/
theorem sint8_high {b : Byte} (h : 128 ≤ b.toNat) : (sint8 b).val = b.toNat - 256 := by
  simp [sint8, Nat.not_lt.mpr h]

/-- `sint8` is the two's-complement reading of core Lean. -/
theorem sint8_eq_toInt (b : Byte) : (sint8 b).val = b.toInt := by
  have := b.isLt
  rcases Nat.lt_or_ge b.toNat 128 with h | h
  · rw [sint8_low h, BitVec.toInt_eq_toNat_cond, if_pos (by omega)]
  · rw [sint8_high h, BitVec.toInt_eq_toNat_cond, if_neg (by omega)]
    norm_num

/-- A lane is the reference algorithm. -/
theorem lane_eq_laneBits (fmt : Fmt) (n : SInt8) : lane fmt n = laneBits fmt n := rfl

end Sys2Proof.Machine
end

