-- ==== Sys2Proof/Laws/State.lean ====
section
/-!
SUPPORT. One lemma per field per update of State, so that no proof unfolds a record update.
-/

namespace Sys2Proof.Machine

variable (s : State) (fmt : Fmt) (e : ErrorCode) (f : Results)

@[simp] theorem respond_script : (s.respond f).script = s.script := rfl
@[simp] theorem respond_req : (s.respond f).req = s.req := rfl
@[simp] theorem respond_resp : (s.respond f).resp = ⟨true, 0#2, f.pack⟩ := rfl
@[simp] theorem respond_received : (s.respond f).received = s.received ++ [.ok f] := rfl
@[simp] theorem respond_draws : (s.respond f).draws = s.draws := rfl
@[simp] theorem respond_memRead (a : Nat) : (s.respond f).memRead a = s.memRead a := rfl

@[simp] theorem raise_script : (s.raise fmt e).script = s.script := rfl
@[simp] theorem raise_req : (s.raise fmt e).req = s.req := rfl
@[simp] theorem raise_resp : (s.raise fmt e).resp = ⟨true, e.code, .draw fmt s.draws s.req.wires⟩ := rfl
@[simp] theorem raise_received : (s.raise fmt e).received = s.received ++ [.err e] := rfl
@[simp] theorem raise_draws : (s.raise fmt e).draws = s.draws + 1 := rfl
@[simp] theorem raise_memRead (a : Nat) : (s.raise fmt e).memRead a = s.memRead a := rfl

@[simp] theorem idle_script : (s.idle fmt).script = s.script := rfl
@[simp] theorem idle_req : (s.idle fmt).req = s.req := rfl
@[simp] theorem idle_resp_valid : (s.idle fmt).resp.valid = false := rfl
@[simp] theorem idle_resp_status : (s.idle fmt).resp.status = Config.freeStatus s.draws s.req.wires := rfl
@[simp] theorem idle_resp_data : (s.idle fmt).resp.data = .draw fmt s.draws s.req.wires := rfl
@[simp] theorem idle_received : (s.idle fmt).received = s.received := rfl
@[simp] theorem idle_draws : (s.idle fmt).draws = s.draws + 1 := rfl
@[simp] theorem idle_memRead (a : Nat) : (s.idle fmt).memRead a = s.memRead a := rfl

@[simp] theorem present_received : s.present.received = s.received := by unfold State.present; split <;> rfl
@[simp] theorem present_draws : s.present.draws = s.draws := by unfold State.present; split <;> rfl
@[simp] theorem present_resp : s.present.resp = s.resp := by unfold State.present; split <;> rfl
@[simp] theorem present_script : s.present.script = s.script.tail := by
  unfold State.present; split <;> simp_all

/-- The requester presents the first entry of its script. -/
theorem present_cons {d : ReqPort} {rest : List ReqPort} (h : s.script = d :: rest) :
    s.present = { s with script := rest, req := d } := by
  simp [State.present, h]

/-- With nothing left to present, the request is taken away. -/
theorem present_nil (h : s.script = []) : s.present = { s with req := { s.req with valid := false } } := by
  simp [State.present, h]

/-- A free value of `resp_data` has the width of the build. -/
@[simp] theorem draw_ofBuild_b64 (k : Nat) (w : InputWires) :
    RespData.draw .b64 k w = .b64 (Config.freeData256 k w) := rfl
@[simp] theorem draw_ofBuild_b32 (k : Nat) (w : InputWires) :
    RespData.draw .b32 k w = .b32 (Config.freeData128 k w) := rfl

end Sys2Proof.Machine
end

