-- ==== Sys2Proof/Laws/Memory.lean ====
section
/-!
SUPPORT. The request buffer as memory: its canonical form, and what each address reads as (spec/20_memory.md rules R17, R20,
R22). Nothing writes it (rule R30): the frame lemmas `respond_memRead`, `raise_memRead`, `idle_memRead` stand in
Laws/State.lean.
-/

namespace Sys2Proof.Machine

/-- The request buffer is always in canonical form. -/
theorem buffer_wf (d : ReqPort) : d.buffer.wf = true := by
  unfold ReqPort.buffer
  split <;> simp [Memory.wf]

/-- A well-formed request has its four bytes at offsets 0 to 3. -/
theorem buffer_read {d : ReqPort} (hv : d.valid = true) (hl : d.len = 4#3) (i : Fin 4) :
    d.buffer.read i.val = some (dataByte d.data i) := by
  simp only [ReqPort.buffer, hv, hl, and_self, if_true]
  fin_cases i <;> simp [Memory.read]

/-- No other offset exists. -/
theorem buffer_read_outside (d : ReqPort) {a : Nat} (ha : 4 ≤ a) : d.buffer.read a = none := by
  unfold ReqPort.buffer
  split
  · simp only [Memory.read]
    repeat rw [if_neg (by omega)]
  · rfl

/-- A request whose length is not 4 has no offset at all. -/
theorem buffer_read_illegal {d : ReqPort} (hl : d.len ≠ 4#3) (a : Nat) : d.buffer.read a = none := by
  simp [ReqPort.buffer, hl, Memory.read]

/-- Nothing is listed right after power-up. -/
theorem reset_buffer : State.reset.req.buffer = [] := by decide

end Sys2Proof.Machine
end

