-- ==== Sys2Proof/Laws/PerInstr.lean ====
section
/-!
SUPPORT. Statements made for every instruction, one lemma per constructor (LAWS.json).
-/

namespace Sys2Proof.Laws.SelectsItsRow

/-- The encoding of an instruction has the fixed bits of its row in spec/opcode_table.json. -/
def Statement (i : Instr) : Prop := encode i &&& norm4Mask = norm4Match

theorem norm4 (b0 b1 b2 b3 : Byte) : Statement (.norm4 b0 b1 b2 b3) := by
  refine BitVec.eq_of_getLsbD_eq fun k hk => ?_
  simp only [encode, norm4Mask, norm4Match, BitVec.getLsbD_and, BitVec.getLsbD_append]
  interval_cases k <;> simp

end Sys2Proof.Laws.SelectsItsRow
end

