-- ==== Sys2Proof/Laws/Rounding.lean ====
section
/-!
SUPPORT. When an encoding is the rounding of a real number: being within half a unit of it is enough, among all values of
the format (spec/41_fdiv127.md rule R57).
-/

namespace Sys2Proof.Machine

/-- Strictly nearer than every other value of the format. -/
def StrictlyNearest (fmt : Fmt) (q : ℚ) (w : BitVec fmt.flen) : Prop :=
  hasValue fmt w = true ∧
  ∀ v : BitVec fmt.flen, hasValue fmt v = true → v ≠ w → |valueOf fmt w - q| < |valueOf fmt v - q|

/-- A strictly nearest value is the one rounding. -/
theorem StrictlyNearest.roundsTo_iff {fmt : Fmt} {q : ℚ} {w : BitVec fmt.flen} (h : StrictlyNearest fmt q w)
    (v : BitVec fmt.flen) : RoundsTo fmt q v ↔ v = w := by
  constructor
  · intro hv
    by_contra hne
    have h1 := h.2 v hv.1 hne
    rcases hv.2 w h.1 (Ne.symm hne) with h2 | h2 <;> linarith [h2]
  · rintro rfl
    exact ⟨h.1, fun u hu hne => .inl (h.2 u hu hne)⟩

/-- +0 is strictly nearest to 0. -/
theorem strictlyNearest_zero (fmt : Fmt) : StrictlyNearest fmt 0 (plusZero fmt) := by
  refine ⟨by simp [hasValue], fun v hv hne => ?_⟩
  have hvn : isNormal fmt v = true := by simpa [hasValue, hne] using hv
  rw [valueOf_normal hvn]
  simp only [valueOf, if_true, sub_self, abs_zero, sub_zero, abs_pos]
  positivity

/-- A sign is +1 or −1. -/
theorem neg_one_pow_field {k : ℕ} (h : k ≤ 1) : ((-1 : ℤ) ^ k = 1 ∧ k = 0) ∨ ((-1 : ℤ) ^ k = -1 ∧ k = 1) := by
  interval_cases k <;> simp

/-- Two normal numbers that are the same integer multiple of the smaller one's unit are the same encoding. -/
theorem eq_of_same_multiple {fmt : Fmt} {v w : BitVec fmt.flen} {d : ℕ}
    (hd : expField fmt v = expField fmt w + d)
    (hz : (-1 : ℤ) ^ signField fmt v * (((2 ^ (fmt.prec - 1) + fracField fmt v) * 2 ^ d : ℕ) : ℤ) =
      (-1 : ℤ) ^ signField fmt w * ((2 ^ (fmt.prec - 1) + fracField fmt w : ℕ) : ℤ)) : v = w := by
  have hfw := fields_lt fmt w
  have hfv := fields_lt fmt v
  have hd0 : d = 0 := by
    by_contra hd0
    have h2 : 2 ≤ 2 ^ d := Nat.le_self_pow hd0 2
    have h3 : 2 ^ (fmt.prec - 1) * 2 ≤ (2 ^ (fmt.prec - 1) + fracField fmt v) * 2 ^ d :=
      Nat.mul_le_mul (by omega) h2
    generalize (2 ^ (fmt.prec - 1) + fracField fmt v) * 2 ^ d = A at *
    rcases neg_one_pow_field hfv.1 with ⟨a, -⟩ | ⟨a, -⟩ <;>
      rcases neg_one_pow_field hfw.1 with ⟨b, -⟩ | ⟨b, -⟩ <;>
      rw [a, b] at hz <;> cases fmt <;> norm_num at * <;> omega
  subst hd0
  have hpos : 0 < 2 ^ (fmt.prec - 1) := by positivity
  have h : signField fmt v = signField fmt w ∧ fracField fmt v = fracField fmt w := by
    rcases neg_one_pow_field hfv.1 with ⟨a, a'⟩ | ⟨a, a'⟩ <;>
      rcases neg_one_pow_field hfw.1 with ⟨b, b'⟩ | ⟨b, b'⟩ <;>
      rw [a, b] at hz <;> generalize 2 ^ (fmt.prec - 1) = Q at * <;> push_cast at hz <;> omega
  apply BitVec.eq_of_toNat_eq
  rw [toNat_eq_fields fmt v, toNat_eq_fields fmt w, h.1, h.2, hd]
  simp

/-- A normal number of exponent `e` that is less than half a unit away from `q`, where `2^e ≤ |q|`, is strictly nearest to
`q` among all values of the format. -/
theorem strictlyNearest_of_half_unit {fmt : Fmt} {q : ℚ} {w : BitVec fmt.flen} {e : ℤ} (hn : isNormal fmt w = true)
    (he : (expField fmt w : ℤ) = e + fmt.bias) (hq : (2 : ℚ) ^ e ≤ |q|)
    (hh : |valueOf fmt w - q| < 2 ^ (e - (fmt.prec : ℤ))) : StrictlyNearest fmt q w := by
  have hP : ((fmt.prec - 1 : ℕ) : ℤ) = (fmt.prec : ℤ) - 1 := by cases fmt <;> rfl
  refine ⟨by simp [hasValue, hn], fun v hv hne => ?_⟩
  set u : ℚ := 2 ^ (e - (fmt.prec : ℤ) + 1) with hu
  have upos : 0 < u := by positivity
  have hu2 : (2 : ℚ) ^ (e - (fmt.prec : ℤ)) = u / 2 := by
    rw [hu, zpow_add₀ (by norm_num)]
    norm_num
  have hwu : valueOf fmt w =
      (((-1) ^ signField fmt w * ((2 ^ (fmt.prec - 1) + fracField fmt w : ℕ) : ℤ) : ℤ) : ℚ) * u := by
    rw [valueOf_normal hn, he, hP, hu]
    congr 1
    · push_cast
      rfl
    · congr 1
      ring
  rw [hu2] at hh
  by_cases hvz : v = plusZero fmt
  · have hv0 : valueOf fmt v = 0 := by rw [valueOf, if_pos hvz]
    have hprec : 0 < fmt.prec := by cases fmt <;> decide
    have hle : u / 2 ≤ 2 ^ e := by
      rw [← hu2]
      exact zpow_le_zpow_right₀ (by norm_num) (by omega)
    rw [hv0, zero_sub, abs_neg]
    linarith
  · have hvn : isNormal fmt v = true := by simpa [hasValue, hvz] using hv
    have hvv := valueOf_normal hvn
    have hfv := fields_lt fmt v
    set m : ℕ := 2 ^ (fmt.prec - 1) + fracField fmt v with hm
    by_cases hk : expField fmt w ≤ expField fmt v
    · -- `v` is another multiple of the unit `u`: at least one unit away from `w`
      obtain ⟨d, hd⟩ := Nat.exists_eq_add_of_le hk
      have hvu : valueOf fmt v = (((-1) ^ signField fmt v * ((m * 2 ^ d : ℕ) : ℤ) : ℤ) : ℚ) * u := by
        rw [hvv, hd, hP, hu]
        push_cast
        rw [show ((expField fmt w : ℤ) + d - fmt.bias - (fmt.prec - 1)) = (d : ℤ) + (e - fmt.prec + 1) by
          rw [he]; ring, zpow_add₀ (by norm_num), zpow_natCast]
        ring
      set a : ℤ := (-1) ^ signField fmt v * ((m * 2 ^ d : ℕ) : ℤ) with ha
      set b : ℤ := (-1) ^ signField fmt w * ((2 ^ (fmt.prec - 1) + fracField fmt w : ℕ) : ℤ) with hb
      have hab : a ≠ b := fun hab => hne (eq_of_same_multiple hd hab)
      have h1 : (1 : ℚ) ≤ |(a : ℚ) - b| := by
        rw [← Int.cast_sub, ← Int.cast_abs]
        exact_mod_cast Int.one_le_abs (sub_ne_zero.mpr hab)
      have h2 : u ≤ |valueOf fmt v - valueOf fmt w| := by
        rw [hvu, hwu, ← sub_mul, abs_mul, abs_of_pos upos]
        nlinarith
      have h3 := abs_sub_le (valueOf fmt v) q (valueOf fmt w)
      rw [abs_sub_comm q] at h3
      linarith
    · -- `v` lies in a lower binade: at least half a unit below `2^e`
      have hmlt : (m : ℚ) ≤ 2 ^ fmt.prec - 1 := by
        have hm1 : m + 1 ≤ 2 ^ fmt.prec := by
          have : 2 ^ (fmt.prec - 1) + 2 ^ (fmt.prec - 1) = 2 ^ fmt.prec := by cases fmt <;> norm_num
          omega
        have : ((m + 1 : ℕ) : ℚ) ≤ ((2 ^ fmt.prec : ℕ) : ℚ) := by exact_mod_cast hm1
        push_cast at this
        linarith
      have h1 : |valueOf fmt v| ≤ 2 ^ e - u / 2 := by
        rw [hvv, abs_mul, abs_mul, abs_pow, abs_neg, abs_one, one_pow, one_mul, abs_of_nonneg (by positivity),
          abs_of_pos (by positivity)]
        have h3 : (2 : ℚ) ^ ((expField fmt v : ℤ) - fmt.bias - ((fmt.prec - 1 : ℕ) : ℤ)) ≤ u / 2 := by
          rw [← hu2]
          apply zpow_le_zpow_right₀ (by norm_num)
          rw [hP]
          omega
        have h4 : (2 : ℚ) ^ e = 2 ^ fmt.prec * (u / 2) := by
          rw [← hu2, ← zpow_natCast, ← zpow_add₀ (by norm_num)]
          congr 1
          ring
        have h5 : (1 : ℚ) ≤ 2 ^ fmt.prec := one_le_pow₀ (by norm_num)
        calc (m : ℚ) * _ ≤ (2 ^ fmt.prec - 1) * (u / 2) := mul_le_mul hmlt h3 (by positivity) (by linarith)
          _ = _ := by rw [h4]; ring
      have h2 := abs_sub_abs_le_abs_sub q (valueOf fmt v)
      rw [abs_sub_comm q] at h2
      linarith

end Sys2Proof.Machine
end

