-- ==== Sys2Proof/Laws/Step.lean ====
section
/-!
SUPPORT. What one instant can do, said once: it answers a well-formed request, raises InvalidInputLength, or is idle.
-/

namespace Sys2Proof.Machine

variable {fmt : Fmt} {run : Instr → State → Host.Outcome State Fault Refusal} {s t : State}

/-- A request of length 4 runs NORM4 on its four bytes. -/
theorem cycle_legal (hv : s.present.req.valid = true) (hl : s.present.req.len = 4#3) :
    cycle fmt run s = run (.norm4 (dataByte s.present.req.data 0) (dataByte s.present.req.data 1)
      (dataByte s.present.req.data 2) (dataByte s.present.req.data 3)) s.present := by
  have h : lenField s.present.req.word = 4#3 := by simpa using hl
  simp [cycle, hv, decode_legal h]

/-- A request of any other length raises `InvalidInputLength`. -/
theorem cycle_illegal (hv : s.present.req.valid = true) (hl : s.present.req.len ≠ 4#3) :
    cycle fmt run s = .next (s.present.raise fmt .invalidInputLength) := by
  have h : lenField s.present.req.word ≠ 4#3 := by simpa using hl
  simp [cycle, hv, decode_illegal h, rejectError]

/-- Without a request nothing is answered. -/
theorem cycle_idle (hv : s.present.req.valid = false) : cycle fmt run s = .next (s.present.idle fmt) := by
  simp [cycle, hv]

/-- The operations of the build `Config.fmt` are `exec`. -/
theorem exec_eq_execOf : exec = execOf Config.fmt := by
  funext i s
  cases i
  rfl

/-- The build `Config.fmt` is the machine. -/
theorem step_eq_stepOf : step = stepOf Config.fmt := by
  funext s
  rw [step, stepOf, exec_eq_execOf]

/-- Everything a step of a build can do. -/
theorem stepOf_cases (h : stepOf fmt s = .next t) :
    (s.present.req.valid = true ∧ s.present.req.len = 4#3 ∧
      t = s.present.respond (norm4Results fmt (dataBytes s.present.req.data))) ∨
    (s.present.req.valid = true ∧ s.present.req.len ≠ 4#3 ∧ t = s.present.raise fmt .invalidInputLength) ∨
    (s.present.req.valid = false ∧ t = s.present.idle fmt) := by
  unfold stepOf at h
  by_cases hv : s.present.req.valid = true
  · by_cases hl : s.present.req.len = 4#3
    · rw [cycle_legal hv hl] at h
      injection h with h
      exact .inl ⟨hv, hl, h.symm⟩
    · rw [cycle_illegal hv hl] at h
      injection h with h
      exact .inr (.inl ⟨hv, hl, h.symm⟩)
  · rw [Bool.not_eq_true] at hv
    rw [cycle_idle hv] at h
    injection h with h
    exact .inr (.inr ⟨hv, h.symm⟩)

/-- What the ports carry for a request of length 4. -/
theorem normPort_legal {d : ReqPort} (hl : d.len = 4#3) :
    normPort fmt d = .ok (norm4Results fmt (dataBytes d.data)) := by
  simp [normPort, hl, normBuffer, dataBytes]

/-- What the ports carry for a request of any other length. -/
theorem normPort_illegal {d : ReqPort} (hl : d.len ≠ 4#3) : normPort fmt d = .err .invalidInputLength := by
  simp [normPort, hl]

end Sys2Proof.Machine
end

