-- ==== Sys2Proof/Tests/Slice0.lean ====
section
/-!
SUPPORT. The model's own tests. Expected values are those written out in the spec (95_test_vectors.md, the examples of
rules R24, R46, R48, R58 and R72), never the model's own answers. Then, for each statement with hypotheses, a witness that
meets them.
-/

open Sys2Proof Sys2Proof.Machine

namespace Sys2Proof.Tests

/-- Power-up, with these presentations still to come. -/
def coming (script : List ReqPort) : State := { State.reset with script := script }

/-- `REQ len, data`, presented. -/
def request (len : Len) (data : ReqData) : ReqPort := ⟨true, len, data⟩

/-- Scenario S1 of the spec, `NORM4 [127, -127, 0, 64]`. -/
def s1 : ReqPort := request 4 0x4000817F

/-- What one step adds to the received responses, with the status shown. -/
def answer (s : State) : Option (List Response × BitVec 2) :=
  match step s with
  | .next t => some (t.received.drop s.received.length, t.resp.status)
  | .fault _ => none
  | .refused _ => none

/-! ### Well-formedness refuses an ill-formed term, for each check -/

theorem smoke_earth_above_127 : (Source.norm4 128 0 0 0).wellFormed = false := by decide
theorem smoke_air_below_minus_128 : (Source.norm4 0 (-129) 0 0).wellFormed = false := by decide
theorem smoke_water_above_127 : (Source.norm4 0 0 1000 0).wellFormed = false := by decide
theorem smoke_fire_below_minus_128 : (Source.norm4 0 0 0 (-200)).wellFormed = false := by decide
theorem smoke_len_needs_four_bits : (Source.req 8 0).wellFormed = false := by decide
theorem smoke_data_needs_33_bits : (Source.req 4 4294967296).wellFormed = false := by decide
theorem smoke_buffer_of_three : Buffer.wellFormed [1, 2, 3] = false := by decide
theorem smoke_buffer_of_five : Buffer.wellFormed [1, 2, 3, 4, 5] = false := by decide
theorem smoke_wellformed_terms : (Source.norm4 127 (-127) 0 (-128)).wellFormed = true ∧
    (Source.req 7 4294967295).wellFormed = true ∧ Buffer.wellFormed [1, 2, 3, 4] = true ∧
    (Instr.norm4 0 0 0 0).wellFormed = true := by decide
theorem smoke_memory_out_of_order : Memory.wf [(1, 0#8), (0, 0#8)] = false := by decide

/-! ### Encodings, written out bit by bit -/

/-- `100 dddddddd cccccccc bbbbbbbb aaaaaaaa` (opcode_table.json) with four different bytes. -/
theorem test_decode_word :
    decode 0b100_01000000_00000000_10000001_01111111#35 = .ok (.norm4 0x7F 0x81 0x00 0x40) := by decide
theorem test_decode_order : decode 0b100_00000100_00000011_00000010_00000001#35 = .ok (.norm4 1 2 3 4) := by decide
theorem test_decode_length_3 : decode 0x34000817F#35 = .error (.illegalLength 3#3) := by decide
theorem test_encode : encode (.norm4 0x7F 0x81 0x00 0x40) = 0x44000817F#35 := by decide
theorem test_table_word : decodeTableWord 40 0x44000817F = some (.norm4 0x7F 0x81 0x00 0x40) := by decide
theorem test_table_word_illegal : decodeTableWord 40 0x04000817F = none := by decide
theorem test_table_word_not_a_request : decodeTableWord 40 0x844000817F = none := by decide
/-- Rule R46: `NORM4 [127, -127, 0, 64]` is `REQ 4, 0x4000817F`, encoding `0x4_4000817F`. -/
theorem test_syntax : (Source.norm4 127 (-127) 0 64).assemble = 0x44000817F#35 ∧
    (Source.req 4 0x4000817F).assemble = 0x44000817F#35 := by decide
/-- Rule R24: the buffer `7F 81 00 40` is `W = 0x4000817F`. -/
theorem test_word_view : (ReqPort.ofBuffer [0x7F, 0x81, 0x00, 0x40] 0).data = 0x4000817F#32 := by decide
/-- 95 section 2.4: a buffer of three and of seven or more bytes. -/
theorem test_buffer_lengths : (ReqPort.ofBuffer [0x7F, 0x81, 0x00] 0x40000000).word = 0x34000817F#35 ∧
    (ReqPort.ofBuffer [1, 2, 3, 4, 5, 6, 7, 8, 9] 0).len = 7#3 := by decide

/-! ### UNPACK4 (95 section 2.1) -/

/-- The four lanes as plain integers. -/
def unpacked (data : ReqData) : Lanes Int := (unpack4 (dataBytes data)).map (fun n => n.val)

theorem test_unpack_mixed : unpacked 0xFE02FF01 = ⟨1, -1, 2, -2⟩ := by decide
theorem test_unpack_corners : unpacked 0x00FF7F80 = ⟨-128, 127, -1, 0⟩ := by decide

/-! ### I8TOFP (95 section 2.2) and the lane (95 section 2.3) -/

theorem test_i8tofp_b64 : i8tofpBits .b64 (sint8 64) = 0x4050000000000000#64 ∧
    i8tofpBits .b64 (sint8 0x81) = 0xC05FC00000000000#64 := by decide
theorem test_i8tofp_b32 : i8tofpBits .b32 (sint8 0x80) = 0xC3000000#32 ∧
    i8tofpBits .b32 (sint8 1) = 0x3F800000#32 := by decide
/-- Rounded up and rounded down; the two worked examples of rule R58. -/
theorem test_lane_b64 : lane .b64 (sint8 126) = 0x3FEFBF7EFDFBF7F0#64 ∧ lane .b64 (sint8 64) = 0x3FE0204081020408#64 := by
  decide
theorem test_lane_b32 : lane .b32 (sint8 42) = 0x3EA952A5#32 ∧ lane .b32 (sint8 0x80) = 0xBF810204#32 := by decide
/-- The value of an encoding, by rule R40: 127.0 and −1.0 (rule R54, 95 section 2.3). -/
theorem test_value : valueOf .b64 0x405FC00000000000#64 = 127 ∧ valueOf .b32 0xBF800000#32 = -1 := by decide +kernel

/-! ### NORM4 and the error path (95 sections 1.2 and 2.4) -/

theorem test_norm4_s1 : answer (coming [s1]) = some ([.ok (.b64
    ⟨0x3FF0000000000000, 0xBFF0000000000000, 0x0000000000000000, 0x3FE0204081020408⟩)], 0#2) := by decide
theorem test_norm4_b32 : normPort .b32 (request 4 0xFE02FF01) =
    .ok (.b32 ⟨0x3C010204, 0xBC010204, 0x3C810204, 0xBC810204⟩) := by decide
/-- `resp_data` of S1 as one value (95 section 1.2). -/
theorem test_pack_s1 : (norm4Results .b64 (dataBytes 0x4000817F)).pack =
    .b64 0x3FE02040810204080000000000000000BFF00000000000003FF0000000000000 := by decide
theorem test_length_3 : answer (coming [request 3 0x4000817F]) = some ([.err .invalidInputLength], 1#2) := by decide
theorem test_length_7 : answer (coming [request 7 0]) = some ([.err .invalidInputLength], 1#2) := by decide
/-- The first instruction after power-up. -/
theorem test_first_request : answer (State.reset.withFetchWord 40 0x47F7F7F7F) = some ([.ok (.b64
    ⟨0x3FF0000000000000, 0x3FF0000000000000, 0x3FF0000000000000, 0x3FF0000000000000⟩)], 0#2) := by decide

/-! ### Witnesses: states and operands that meet the hypotheses of each statement -/

theorem witness_decode_encode : (Instr.norm4 1 2 3 4).wellFormed = true ∧
    decode 0x404030201#35 = .ok (.norm4 1 2 3 4) := by decide
theorem witness_length_four_and_not : 0x400000000#35 &&& 0x700000000#35 = 0x400000000#35 ∧
    (0x5FFFFFFFF#35).extractLsb' 32 3 ≠ 4#3 := by decide
theorem witness_request_fields : s1.len = 4#3 := by decide
theorem witness_syntax : (Source.norm4 127 (-128) 0 (-1)).wellFormed = true ∧ (Source.req 7 0).wellFormed = true := by
  decide

/-- S1 stands at the ports. -/
def presented : State := { State.reset with req := s1 }

theorem witness_buffer_first_and_last : presented.req.valid = true ∧ presented.req.len = 4#3 ∧ 0 < 4 ∧ 3 < 4 ∧
    presented.memRead 0 = some 0x7F#8 ∧ presented.memRead 3 = some 0x40#8 := by decide
theorem witness_buffer_beyond : 4 ≤ 4 ∧ presented.memRead 4 = none := by decide
theorem witness_buffer_illegal_length : (request 3 0x4000817F).len ≠ 4#3 ∧
    (request 3 0x4000817F).buffer.read 0 = none := by decide
theorem witness_buffer_without_request : State.reset.req.valid = false ∧ State.reset.memRead 0 = none := by decide
theorem witness_sint8_ranges : (0#8).toNat ≤ 127 ∧ (127#8).toNat ≤ 127 ∧ 128 ≤ (128#8).toNat ∧ 128 ≤ (255#8).toNat ∧
    (sint8 127#8).val = 127 ∧ (sint8 128#8).val = -128 := by decide
theorem witness_zero : (sint8 0#8).val = 0 := by decide
theorem witness_boundaries : (sint8 0x80#8).val = -128 ∧ -127 ≤ (sint8 0x81#8).val ∧ -127 ≤ (sint8 0x7F#8).val := by
  decide
theorem witness_nonzero : (sint8 1#8).val ≠ 0 ∧ (sint8 0x80#8).val ≠ 0 := by decide
theorem witness_negation : 1 ≤ (sint8 1#8).val ∧ (sint8 0xFF#8).val = -(sint8 1#8).val ∧
    1 ≤ (sint8 127#8).val ∧ (sint8 0x81#8).val = -(sint8 127#8).val := by decide
theorem witness_increasing : (sint8 0x80#8).val < (sint8 0x81#8).val ∧ (sint8 126#8).val < (sint8 127#8).val := by decide
theorem witness_doubling : (sint8 2#8).val = 2 * (sint8 1#8).val ∧ (sint8 126#8).val = 2 * (sint8 63#8).val ∧
    (sint8 0xC0#8).val = -64 ∧ (sint8 0x80#8).val = 2 * (sint8 0xC0#8).val := by decide
/-- Two values of the format equally near to a quotient, 1.0 and −1.0 to 0/127. -/
theorem witness_equally_near : hasValue .b64 0x3FF0000000000000#64 = true ∧ hasValue .b64 0xBFF0000000000000#64 = true ∧
    0x3FF0000000000000#64 ≠ 0xBFF0000000000000#64 ∧
    |valueOf .b64 0x3FF0000000000000#64 - ((sint8 0#8).val : ℚ) / 127| =
      |valueOf .b64 0xBFF0000000000000#64 - ((sint8 0#8).val : ℚ) / 127| := by decide +kernel
theorem witness_wrong_lengths : ([] : Buffer).length ≠ 4 ∧ ([1, 2, 3] : Buffer).length ≠ 4 ∧
    ([1, 2, 3, 4, 5] : Buffer).length ≠ 4 := by decide

theorem witness_exec_next : ∃ t, exec (.norm4 1 2 3 4) presented = .next t := ⟨_, rfl⟩

/-- A step that answers, with the request at the ports. -/
theorem witness_step_ok : (coming [s1]).present.req.valid = true ∧ (coming [s1]).present.req.len = 4#3 ∧
    ∃ t, step (coming [s1]) = .next t ∧ t.resp.valid = true ∧ t.resp.status = 0#2 :=
  ⟨rfl, rfl, _, rfl, rfl, rfl⟩
/-- A step that raises the error. -/
theorem witness_step_error : (coming [request 5 0]).script = request 5 0 :: [] ∧ (request 5 0).valid = true ∧
    (request 5 0).len ≠ 4#3 ∧ ∃ t, step (coming [request 5 0]) = .next t ∧ t.resp.valid = true ∧ t.resp.status = 1#2 :=
  ⟨rfl, rfl, by decide, _, rfl, rfl, rfl⟩
/-- Lengths on both sides of 4, and at both ends of the field. -/
theorem witness_illegal_lengths : (0#3 : Len) ≠ 4#3 ∧ (3#3 : Len) ≠ 4#3 ∧ (5#3 : Len) ≠ 4#3 ∧ (7#3 : Len) ≠ 4#3 := by decide
/-- No request: nothing left to present, and a presentation without one. -/
theorem witness_idle : (coming []).present.req.valid = false ∧ (coming [⟨false, 4#3, 0⟩]).present.req.valid = false ∧
    ∃ t, step (coming []) = .next t ∧ t.resp.valid = false := ⟨rfl, rfl, _, rfl, rfl⟩
/-- Equal bytes in lanes 0 and 3 of two requests, in both builds. -/
theorem witness_equal_bytes : (∃ t, stepOf .b64 (coming [request 4 0x00000040]) = .next t) ∧
    (∃ t, stepOf .b32 (coming [s1]) = .next t) ∧
    (coming [request 4 0x00000040]).present.req.data.extractLsb' (8 * (0 : Fin 4).val) 8 =
      (coming [s1]).present.req.data.extractLsb' (8 * (3 : Fin 4).val) 8 := ⟨⟨_, rfl⟩, ⟨_, rfl⟩, by decide⟩
/-- A buffer of the one legal length is presented, and answered by Norm of it. -/
theorem witness_buffer_of_four_presented : (coming [ReqPort.ofBuffer [1, 2, 3, 4] 0]).script =
      ReqPort.ofBuffer [1, 2, 3, 4] 0 :: [] ∧ (ReqPort.ofBuffer [1, 2, 3, 4] 0).len = 4#3 ∧
    ∃ t, stepOf .b64 (coming [ReqPort.ofBuffer [1, 2, 3, 4] 0]) = .next t ∧ t.resp.status = 0#2 :=
  ⟨rfl, by decide, _, rfl, rfl⟩
/-- Buffers of the lengths beside 4, of none, and of more bytes than the field can say. -/
theorem witness_other_buffers_presented : (coming [ReqPort.ofBuffer [1, 2, 3, 4, 5] 0]).script =
      ReqPort.ofBuffer [1, 2, 3, 4, 5] 0 :: [] ∧ (ReqPort.ofBuffer [1, 2, 3] 0xFF000000).len = 3#3 ∧
    (ReqPort.ofBuffer [] 0).len = 0#3 ∧ (ReqPort.ofBuffer [1, 2, 3, 4, 5, 6, 7, 8] 0).len = 7#3 ∧
    ∃ t, stepOf .b64 (coming [ReqPort.ofBuffer [1, 2, 3, 4, 5] 0]) = .next t ∧ t.resp.status = 1#2 :=
  ⟨rfl, by decide, by decide, by decide, _, rfl, rfl⟩
theorem witness_decoded_request : (coming [s1]).script = s1 :: [] ∧ s1.valid = true ∧
    decode s1.word = .ok (.norm4 0x7F 0x81 0x00 0x40) := by decide
theorem witness_placed_word : decodeTableWord 40 0x44000817F = some (.norm4 0x7F 0x81 0x00 0x40) ∧
    0x44000817F < 2 ^ 35 := by decide
/-- Two states with the same request and different pasts. -/
theorem witness_same_request : (coming [s1]).present.req =
      ({ coming [s1, s1] with received := [.err .invalidInputLength], draws := 9 } : State).present.req ∧
    (coming [s1]).present.req.valid = true ∧ (∃ t, stepOf .b64 (coming [s1]) = .next t) ∧
    ∃ t, stepOf .b64 { coming [s1, s1] with received := [.err .invalidInputLength], draws := 9 } = .next t :=
  ⟨rfl, rfl, ⟨_, rfl⟩, ⟨_, rfl⟩⟩
/-- An illegal request before a legal one. -/
theorem witness_error_then_request : (request 3 0).valid = true ∧ (request 3 0).len ≠ 4#3 ∧
    (∃ t, runOf .b64 2 (coming [request 3 0, s1]) = .next t) ∧
    ∃ t, runOf .b64 1 { coming [request 3 0, s1] with script := [s1] } = .next t :=
  ⟨rfl, by decide, ⟨_, rfl⟩, ⟨_, rfl⟩⟩

/-- A state in the middle of a run: four zero bytes are answered with four zeros. -/
def answered : State :=
  { script := [s1]
    req := request 4 0
    resp := ⟨true, 0#2, (norm4Results .b64 (dataBytes 0)).pack⟩
    received := [.ok (norm4Results .b64 (dataBytes 0))]
    draws := 1 }

theorem witness_invariant_and_step : Inv .b64 answered ∧ ∃ t, step answered = .next t := by
  refine ⟨⟨⟨rfl, fun _ => ?_⟩, rfl, ?_⟩, _, rfl⟩
  · rw [show answered.req = request 4 0 from rfl, normPort_legal rfl]
    exact ⟨rfl, rfl⟩
  · intro r hr
    rw [show answered.received = [.ok (norm4Results .b64 (dataBytes 0))] from rfl, List.mem_singleton] at hr
    subst hr
    exact ⟨unpack4 (dataBytes 0), rfl⟩

end Sys2Proof.Tests
end

section
/-!
PROOFS. The request buffer at the ports: the word view of four bytes (spec/20_memory.md rule R24), and that a response is a
function of the presented request (spec/20_memory.md rule R27).
-/

namespace Sys2Proof

/-- Putting `a` above `b` is or-ing `a`, shifted past `b`, into `b`, at any width the two are read at. -/
theorem setWidth_append_eq_or_shiftLeft {n m : Nat} (a : BitVec n) (b : BitVec m) (k : Nat) :
    (a ++ b).setWidth k = b.setWidth k ||| a.setWidth k <<< m := by
  refine BitVec.eq_of_getLsbD_eq fun i hi => ?_
  simp only [BitVec.getLsbD_setWidth, BitVec.getLsbD_append, BitVec.getLsbD_or, BitVec.getLsbD_shiftLeft, hi]
  rcases Nat.lt_or_ge i m with him | him
  · simp [him]
  · simp [Nat.not_lt.mpr him, BitVec.getLsbD_of_ge b i him, show i - m < k by omega]

/-- Four bytes laid out highest byte first are the or of the bytes, each shifted to its place. -/
theorem append_bytes_eq_or_shiftLeft (b0 b1 b2 b3 : Byte) :
    (b3 ++ b2 ++ b1 ++ b0 : ReqData) =
      b0.setWidth 32 ||| b1.setWidth 32 <<< 8 ||| b2.setWidth 32 <<< 16 ||| b3.setWidth 32 <<< 24 := by
  calc (b3 ++ b2 ++ b1 ++ b0 : ReqData)
      = (b3 ++ b2 ++ b1 ++ b0).setWidth 32 := (BitVec.setWidth_eq _).symm
    _ = b0.setWidth 32 ||| (b1.setWidth 32 ||| (b2.setWidth 32 ||| b3.setWidth 32 <<< 8) <<< 8) <<< 8 := by
        simp only [setWidth_append_eq_or_shiftLeft]
    _ = _ := by simp only [BitVec.shiftLeft_or_distrib, ← BitVec.shiftLeft_add, ← BitVec.or_assoc]

namespace Machine

/-- The carrier of a four-byte buffer is the four bytes, whatever else the requester drives. -/
theorem ofBuffer_four_data (b0 b1 b2 b3 : Byte) (spare : ReqData) :
    (ReqPort.ofBuffer [b0, b1, b2, b3] spare).data = b3 ++ b2 ++ b1 ++ b0 := rfl

/-- Only a response with results has status 0. -/
theorem status_eq_zero_iff (r : Response) : r.status = 0#2 ↔ ∃ f, r = .ok f := by
  cases r with
  | ok f => simp [Response.status]
  | err e => cases e <;> simp [Response.status, ErrorCode.code]

/-- The buffer is a view of the request ports and of nothing else of the state. -/
theorem memRead_of_req_eq {s t : State} (h : t.req = s.req) (a : Nat) : t.memRead a = s.memRead a := by
  rw [State.memRead, State.memRead, h]

variable {fmt : Fmt} {s t : State}

/-- A step leaves the request ports as the requester drives them. -/
theorem stepOf_req (h : stepOf fmt s = .next t) : t.req = s.present.req := by
  obtain ⟨-, -, rfl⟩ | ⟨-, -, rfl⟩ | ⟨-, rfl⟩ := stepOf_cases h
  · exact respond_req ..
  · exact raise_req ..
  · exact idle_req ..

/-- The step that answers a request adds `Norm` of the request to the responses and shows it at the ports: a function of
the request alone, but for `resp_data` on an error. -/
theorem stepOf_answers (h : stepOf fmt s = .next t) (hv : s.present.req.valid = true) :
    t.received = s.received ++ [normPort fmt s.present.req] ∧ t.resp.valid = true ∧
      t.resp.status = (normPort fmt s.present.req).status ∧
      ∀ f, normPort fmt s.present.req = .ok f → t.resp.data = f.pack := by
  obtain ⟨-, hl, rfl⟩ | ⟨-, hl, rfl⟩ | ⟨hidle, -⟩ := stepOf_cases h
  · rw [normPort_legal hl]
    simp [Response.status]
  · rw [normPort_illegal hl]
    simp [Response.status]
  · simp [hidle] at hv

end Machine
end Sys2Proof

namespace Sys2Proof.Proofs

open Sys2Proof.Machine

/-- Settles O4: the carrier is the four bytes side by side, which is the or of the shifted bytes, and each slice is the byte
that carries its offset. -/
theorem wordViewIsLittleEndian : Obligations.WordViewIsLittleEndian := by
  intro b0 b1 b2 b3 spare
  have hbyte := dataByte_ofBuffer [b0, b1, b2, b3] spare
  refine ⟨?_, hbyte 0, hbyte 1, hbyte 2, hbyte 3⟩
  rw [ofBuffer_four_data]
  exact append_bytes_eq_or_shiftLeft b0 b1 b2 b3

/-- Settles O43: both steps answer `Norm` of the one request, and the request ports, of which the buffer is a view, stand as
they were presented. -/
theorem responseDependsOnTheRequestAlone : Obligations.ResponseDependsOnTheRequestAlone := by
  intro fmt s s' t t' hreq hv h h'
  obtain ⟨hrec, hvalid, hstatus, hdata⟩ := stepOf_answers h hv
  obtain ⟨hrec', hvalid', hstatus', hdata'⟩ := stepOf_answers h' (hreq ▸ hv)
  rw [← hreq] at hrec' hstatus' hdata'
  have hport : t.req = s.present.req := stepOf_req h
  refine ⟨⟨_, hrec, hrec'⟩, hvalid.trans hvalid'.symm, hstatus.trans hstatus'.symm, fun hok => ?_, hport,
    memRead_of_req_eq hport⟩
  obtain ⟨f, hf⟩ := (status_eq_zero_iff _).mp (hstatus ▸ hok)
  rw [hdata f hf, hdata' f hf]

end Sys2Proof.Proofs
end

section
/-!
PROOFS. Where the fields of a request and the lanes of a response stand (spec/30_encoding.md rules R35, R36), which request
is a NORM4 (rules R41, R43), and what the response ports show after a step (rules R37, R38).
-/

namespace Sys2Proof

/-- A byte field of a request stands in the request where it stands in `req_data`. -/
theorem dataByte_dataField (w : ReqWord) (i : Fin 4) :
    dataByte (dataField w) i = w.extractLsb' (8 * i.val) 8 :=
  BitVec.extractLsb'_extractLsb'_of_le (by omega)

/-- NORM4 is what the length 4 selects. -/
theorem exists_decode_eq_norm4_iff (w : ReqWord) :
    (∃ b0 b1 b2 b3 : Byte, decode w = .ok (.norm4 b0 b1 b2 b3)) ↔ lenField w = 4#3 := by
  constructor
  · rintro ⟨b0, b1, b2, b3, h⟩
    by_contra hlen
    simp [decode_illegal hlen] at h
  · exact fun hlen => ⟨_, _, _, _, decode_legal hlen⟩

/-- The mask of NORM4 keeps the length field and clears the data. -/
theorem and_norm4Mask (w : ReqWord) : w &&& norm4Mask = lenField w ++ 0#32 := by
  calc w &&& norm4Mask
      = (lenField w ++ dataField w) &&& (BitVec.allOnes 3 ++ 0#32) := by rw [append_fields]; rfl
    _ = (lenField w &&& BitVec.allOnes 3) ++ (dataField w &&& 0#32) := BitVec.and_append
    _ = lenField w ++ 0#32 := by rw [BitVec.and_allOnes, BitVec.and_zero]

/-- A request matches the row NORM4 when its length is 4. -/
theorem and_norm4Mask_eq_norm4Match_iff (w : ReqWord) : w &&& norm4Mask = norm4Match ↔ lenField w = 4#3 := by
  rw [and_norm4Mask, show norm4Match = 4#3 ++ 0#32 from rfl, BitVec.append_left_inj]

/-- A slice that starts above the lower part is one of the upper part. -/
theorem extractLsb'_append_add_width {v w : Nat} (x : BitVec v) (y : BitVec w) (start len : Nat) :
    (x ++ y).extractLsb' (start + w) len = x.extractLsb' start len := by
  rw [BitVec.extractLsb'_append_eq_of_le (Nat.le_add_left w start), Nat.add_sub_cancel]

/-- Four lanes of `n` bits side by side, lane 0 lowest: the `i`-th slice of `n` bits is lane `i`. -/
theorem extractLsb'_append_lanes {n : Nat} (f : Lanes (BitVec n)) (i : Fin 4) :
    (f.fire ++ f.water ++ f.air ++ f.earth).extractLsb' (n * i.val) n = f.get i := by
  have hup {v : Nat} (x : BitVec v) (y : BitVec n) (k : Nat) :
      (x ++ y).extractLsb' (n * (k + 1)) n = x.extractLsb' (n * k) n := extractLsb'_append_add_width x y _ n
  match i with
  | 0 => exact BitVec.extractLsb'_append_eq_right
  | 1 => exact (hup _ _ 0).trans BitVec.extractLsb'_append_eq_right
  | 2 => exact ((hup _ _ 1).trans (hup _ _ 0)).trans BitVec.extractLsb'_append_eq_right
  | 3 => exact (((hup _ _ 2).trans (hup _ _ 1)).trans (hup _ _ 0)).trans BitVec.extractLsb'_eq_self

namespace Machine

variable {fmt : Fmt} {s t : State}

/-- `resp_valid` = `req_valid`: a step presents a response exactly while the requester presents a request. -/
theorem stepOf_resp_valid (h : stepOf fmt s = .next t) : t.resp.valid = s.present.req.valid := by
  obtain ⟨hv, -, rfl⟩ | ⟨hv, -, rfl⟩ | ⟨hv, rfl⟩ := stepOf_cases h <;> simp [hv]

/-- Ports that show a response while a request is presented, and then `Norm` of it, stand in the relation of rule R38. -/
theorem portsAgree_of_shows_normPort (hvalid : s.resp.valid = s.req.valid)
    (hshow : s.req.valid = true → s.resp.status = (normPort fmt s.req).status ∧
      ∀ f, normPort fmt s.req = .ok f → s.resp.data = f.pack) : PortsAgree fmt s := by
  refine ⟨hvalid, fun hv => ?_⟩
  obtain ⟨hstatus, hdata⟩ := hshow hv
  cases hn : normPort fmt s.req with
  | ok f => exact ⟨hstatus.trans (congrArg Response.status hn), hdata f hn⟩
  | err e => exact hstatus.trans (congrArg Response.status hn)

end Machine
end Sys2Proof

namespace Sys2Proof.Proofs

open Sys2Proof.Machine

/-- Settles O2: the decoder's test and the match of the table row are each the length being 4. -/
theorem lengthFourSelectsNorm4 : Obligations.LengthFourSelectsNorm4 := fun w =>
  have hmask := and_norm4Mask_eq_norm4Match_iff w
  ⟨(exists_decode_eq_norm4_iff w).trans hmask.symm, hmask, fun hlen => ⟨_, decode_illegal hlen⟩⟩

/-- Settles O3: the word is its two fields side by side, and a byte of the data field is the byte of the word at the same
place. -/
theorem requestFieldsStandWhereRuleR35PutsThem : Obligations.RequestFieldsStandWhereRuleR35PutsThem := by
  refine fun d => ⟨lenField_word d, dataField_word d, fun hlen => ?_⟩
  rw [decode_legal ((lenField_word d).trans hlen)]
  simp only [dataByte_dataField]
  rfl

/-- Settles O27: both formats pack four lanes of `FLEN` bits side by side. -/
theorem responseLanesStandWhereRuleR36PutsThem : Obligations.ResponseLanesStandWhereRuleR36PutsThem :=
  ⟨fun f i => ⟨_, rfl, extractLsb'_append_lanes f i⟩, fun f i => ⟨_, rfl, extractLsb'_append_lanes f i⟩⟩

/-- Settles O30: the length field alone decides, and the next state of an illegal request is the one with
`InvalidInputLength` raised. -/
theorem illegalRequestIsAnswered : Obligations.IllegalRequestIsAnswered := by
  intro s d rest hscript hv
  have hp : s.present.req = d := by rw [present_cons s hscript]
  refine ⟨fun hlen => ?_, fun hlen => ⟨?_, s.present.raise Config.fmt .invalidInputLength, ?_, rfl, rfl, ?_⟩⟩
  · exact (exists_decode_eq_norm4_iff d.word).mpr ((lenField_word d).trans hlen)
  · rw [decode_illegal (by rwa [lenField_word]), lenField_word]
  · exact cycle_illegal (hp ▸ hv) (hp ▸ hlen)
  · rw [raise_received, present_received]

/-- Settles O32: what a step presents is `Norm` of the request, four results where the length is 4 and
`InvalidInputLength` where it is not. -/
theorem statusIsOkOrInvalidInputLength : Obligations.StatusIsOkOrInvalidInputLength := by
  refine ⟨rfl, rfl, fun s t h hvalid => ?_⟩
  rw [step_eq_stepOf] at h
  obtain ⟨hrec, -, hstatus, hdata⟩ := stepOf_answers h (stepOf_resp_valid h ▸ hvalid)
  by_cases hlen : s.present.req.len = 4#3
  · have hn := normPort_legal (fmt := Config.fmt) hlen
    rw [hn] at hrec hstatus
    exact .inl ⟨hstatus, _, hrec, hdata _ hn⟩
  · rw [normPort_illegal hlen] at hrec hstatus
    exact .inr ⟨hstatus, hrec⟩

/-- Settles O39: a step leaves the request at the ports and shows `Norm` of it. -/
theorem portsAgreeAfterEveryStep : Obligations.PortsAgreeAfterEveryStep := by
  intro fmt s t h
  apply portsAgree_of_shows_normPort <;> rw [stepOf_req h]
  · exact stepOf_resp_valid h
  · intro hv
    obtain ⟨-, -, hshow⟩ := stepOf_answers h hv
    exact hshow

end Sys2Proof.Proofs
end

section
/-!
PROOFS. UNPACK4: which byte of the request each lane reads, and the two ranges of its signed reading (spec/40_unpack.md
rule R48).
-/

namespace Sys2Proof

/-- A lane of a lane-wise operation is the operation on that lane. -/
@[simp] theorem Lanes.get_map {α β : Type} (f : α → β) (x : Lanes α) (i : Fin 4) : (x.map f).get i = f (x.get i) :=
  match i with
  | 0 | 1 | 2 | 3 => rfl

namespace Machine

/-- Lane `i` of the carrier's bytes is the byte at offset `i`. -/
@[simp] theorem get_dataBytes (data : ReqData) (i : Fin 4) : (dataBytes data).get i = dataByte data i :=
  match i with
  | 0 | 1 | 2 | 3 => rfl

/-- UNPACK4 reads the byte at offset `i`, signed, into lane `i`. -/
theorem get_unpack4_dataBytes (data : ReqData) (i : Fin 4) :
    (unpack4 (dataBytes data)).get i = sint8 (dataByte data i) := by
  rw [unpack4, Lanes.get_map, get_dataBytes]

end Machine
end Sys2Proof

namespace Sys2Proof.Proofs

open Sys2Proof.Machine

/-- Settles O9: UNPACK4 is `sint8` in each lane, the lanes of the carrier are its byte slices in order, and `sint8` has its
two ranges. -/
theorem unpackReadsSignedBytesInOrder : Obligations.UnpackReadsSignedBytesInOrder :=
  ⟨get_unpack4_dataBytes, fun _ => ⟨fun hlow => sint8_low (Nat.lt_succ_of_le hlow), sint8_high⟩⟩

end Sys2Proof.Proofs
end

section
/-!
PROOFS. The result of a lane, said once: its three fields by the reference algorithm (spec/41_fdiv127.md rules R58, R65),
the real number it stands for (rule R64), and its slice of `resp_data` (rule R68).
-/

namespace Sys2Proof.Machine

/-! ### Fields put together -/

section
variable (fmt : Fmt) {sign exp frac : Nat}
  (hs : sign ≤ 1) (he : exp < 2 ^ fmt.expWidth) (hf : frac < 2 ^ (fmt.prec - 1))
include hs he hf

/-- Fields that fit their widths do not run into each other. -/
theorem toNat_assemble :
    (assemble fmt sign exp frac).toNat = sign * 2 ^ (fmt.flen - 1) + exp * 2 ^ (fmt.prec - 1) + frac := by
  rw [assemble, BitVec.toNat_ofNat]
  apply Nat.mod_eq_of_lt
  cases fmt <;> norm_num at * <;> omega

theorem signField_assemble : signField fmt (assemble fmt sign exp frac) = sign := by
  rw [signField, toNat_assemble fmt hs he hf]
  cases fmt <;> norm_num at * <;> omega

theorem expField_assemble : expField fmt (assemble fmt sign exp frac) = exp := by
  rw [expField, toNat_assemble fmt hs he hf]
  cases fmt <;> norm_num at * <;> omega

theorem fracField_assemble : fracField fmt (assemble fmt sign exp frac) = frac := by
  rw [fracField, toNat_assemble fmt hs he hf]
  cases fmt <;> norm_num at * <;> omega

end

/-! ### The quotient of the reference algorithm -/

theorem one_le_prec (fmt : Fmt) : 1 ≤ fmt.prec := by cases fmt <;> decide

/-- The magnitude of a signed byte. -/
theorem SInt8.natAbs_val_le (n : SInt8) : n.val.natAbs ≤ 128 := by
  have := n.property
  omega

/-- The quotient lies in one of eight binades. -/
theorem quotientExp_bounds (a : Nat) : -7 ≤ quotientExp a ∧ quotientExp a ≤ 0 := by
  unfold quotientExp
  split_ifs <;> omega

/-- `e` puts `a` between 127 and 252 units of `2^e`: at least 127, and short of 254, by more than any rounding. -/
theorem mul_two_pow_neg_quotientExp_bounds {a : Nat} (hpos : 1 ≤ a) (ha : a ≤ 128) :
    127 ≤ a * 2 ^ (-quotientExp a).toNat ∧ a * 2 ^ (-quotientExp a).toNat ≤ 252 := by
  unfold quotientExp
  split_ifs <;> simp <;> omega

/-- `2^(P - 1 - e)`: the number of units of the rounded quotient in 1. -/
def quotientScale (fmt : Fmt) (a : Nat) : Nat := 2 ^ ((fmt.prec : Int) - 1 - quotientExp a).toNat

theorem scaledDividend_eq (fmt : Fmt) (a : Nat) : scaledDividend fmt a = a * quotientScale fmt a := rfl

/-- The scale is the weight of the hidden bit, moved up by `-e` places. -/
theorem quotientScale_eq (fmt : Fmt) (a : Nat) :
    quotientScale fmt a = 2 ^ (-quotientExp a).toNat * 2 ^ (fmt.prec - 1) := by
  have he := quotientExp_bounds a
  have hprec := one_le_prec fmt
  rw [quotientScale, ← pow_add]
  congr 1
  omega

/-- The unit of the rounded quotient, as a power of two. -/
theorem inv_quotientScale (fmt : Fmt) (a : Nat) :
    (quotientScale fmt a : ℚ)⁻¹ = 2 ^ (quotientExp a - ((fmt.prec - 1 : ℕ) : ℤ)) := by
  have he := quotientExp_bounds a
  have hprec := one_le_prec fmt
  rw [quotientScale, Nat.cast_pow, Nat.cast_ofNat, ← zpow_natCast, ← zpow_neg]
  congr 1
  omega

/-- Rounding to nearest is adding a half and rounding down: 127 is odd, so no quotient is a tie (rule R58). -/
theorem roundedQuotient_eq (fmt : Fmt) (a : Nat) :
    roundedQuotient fmt a = (2 * scaledDividend fmt a + 127) / 254 := by
  unfold roundedQuotient
  dsimp only [Config.divisor]
  split <;> omega

/-- The rounded quotient is a significand of exactly `P` bits: it needs no renormalisation (rule R58). -/
theorem roundedQuotient_bounds (fmt : Fmt) {a : Nat} (hpos : 1 ≤ a) (ha : a ≤ 128) :
    2 ^ (fmt.prec - 1) ≤ roundedQuotient fmt a ∧ roundedQuotient fmt a < 2 ^ fmt.prec := by
  have hb := mul_two_pow_neg_quotientExp_bounds hpos ha
  rw [roundedQuotient_eq, scaledDividend_eq, quotientScale_eq, ← mul_assoc a]
  generalize a * 2 ^ (-quotientExp a).toNat = b at hb ⊢
  cases fmt <;> norm_num <;> omega

/-- Rounding does not carry a quotient across 1, from either side. -/
theorem roundedQuotient_le_quotientScale_iff (fmt : Fmt) {a : Nat} (ha : a ≤ 128) :
    roundedQuotient fmt a ≤ quotientScale fmt a ↔ a ≤ 127 := by
  have hK : 127 ≤ quotientScale fmt a := by
    have hpow : 1 ≤ 2 ^ (-quotientExp a).toNat := Nat.one_le_two_pow
    rw [quotientScale_eq]
    cases fmt <;> norm_num <;> omega
  rw [roundedQuotient_eq, scaledDividend_eq]
  constructor
  · intro hle
    by_contra hgt
    obtain rfl : a = 128 := by omega
    omega
  · intro h127
    have hN : a * quotientScale fmt a ≤ 127 * quotientScale fmt a := Nat.mul_le_mul_right _ h127
    omega

/-! ### The fields of a lane's result -/

/-- The lane of 0 is +0. -/
theorem lane_of_eq_zero (fmt : Fmt) {n : SInt8} (hn : n.val = 0) : lane fmt n = plusZero fmt := if_pos hn

section
variable (fmt : Fmt) {n : SInt8} (hn : n.val ≠ 0)
include hn

/-- The lane of another input is put together from its sign, the quotient's exponent, and the rounded quotient without its
leading bit. -/
theorem lane_of_ne_zero : lane fmt n = assemble fmt (if n.val < 0 then 1 else 0)
    (quotientExp n.val.natAbs + (fmt.bias : Int)).toNat (roundedQuotient fmt n.val.natAbs - 2 ^ (fmt.prec - 1)) :=
  if_neg hn

/-- Each of the three fits its field. -/
theorem lane_parts_fit : (if n.val < 0 then 1 else 0) ≤ 1 ∧
    (quotientExp n.val.natAbs + (fmt.bias : Int)).toNat < 2 ^ fmt.expWidth ∧
    roundedQuotient fmt n.val.natAbs - 2 ^ (fmt.prec - 1) < 2 ^ (fmt.prec - 1) := by
  have he := quotientExp_bounds n.val.natAbs
  have hq := roundedQuotient_bounds fmt (Int.natAbs_pos.mpr hn) (SInt8.natAbs_val_le n)
  refine ⟨?_, ?_, ?_⟩
  · split_ifs <;> omega
  · cases fmt <;> norm_num <;> omega
  · cases fmt <;> norm_num at * <;> omega

theorem signField_lane : signField fmt (lane fmt n) = if n.val < 0 then 1 else 0 := by
  obtain ⟨hs, he, hf⟩ := lane_parts_fit fmt hn
  rw [lane_of_ne_zero fmt hn, signField_assemble fmt hs he hf]

theorem expField_lane : (expField fmt (lane fmt n) : ℤ) = quotientExp n.val.natAbs + fmt.bias := by
  obtain ⟨hs, he, hf⟩ := lane_parts_fit fmt hn
  rw [lane_of_ne_zero fmt hn, expField_assemble fmt hs he hf]
  apply Int.toNat_of_nonneg
  have hexp := quotientExp_bounds n.val.natAbs
  cases fmt <;> norm_num <;> omega

theorem two_pow_add_fracField_lane :
    2 ^ (fmt.prec - 1) + fracField fmt (lane fmt n) = roundedQuotient fmt n.val.natAbs := by
  obtain ⟨hs, he, hf⟩ := lane_parts_fit fmt hn
  rw [lane_of_ne_zero fmt hn, fracField_assemble fmt hs he hf]
  exact Nat.add_sub_of_le (roundedQuotient_bounds fmt (Int.natAbs_pos.mpr hn) (SInt8.natAbs_val_le n)).1

/-- The result is a normal number. -/
theorem isNormal_lane : isNormal fmt (lane fmt n) = true := by
  have he := quotientExp_bounds n.val.natAbs
  have hexp := expField_lane fmt hn
  simp only [isNormal, Bool.and_eq_true, decide_eq_true_eq]
  cases fmt <;> norm_num at * <;> omega

end

/-! ### The value of a lane's result -/

/-- A lane's result stands for the rounded quotient in its units, with the sign of the input. -/
theorem valueOf_lane (fmt : Fmt) (n : SInt8) : valueOf fmt (lane fmt n) =
    (n.val.sign : ℚ) * (roundedQuotient fmt n.val.natAbs / quotientScale fmt n.val.natAbs) := by
  by_cases hn : n.val = 0
  · simp [lane_of_eq_zero fmt hn, valueOf, hn]
  · have hsign : (-1 : ℚ) ^ signField fmt (lane fmt n) = n.val.sign := by
      rw [signField_lane fmt hn]
      rcases lt_or_gt_of_ne hn with h | h
      · simp [h, Int.sign_eq_neg_one_of_neg h]
      · simp [h.le, Int.sign_eq_one_of_pos h]
    rw [valueOf_normal (isNormal_lane fmt hn), two_pow_add_fracField_lane fmt hn, hsign, expField_lane fmt hn,
      add_sub_cancel_right, ← inv_quotientScale, mul_assoc, div_eq_mul_inv]

/-- The magnitude of a lane's result is at most 1 exactly up to the divisor. -/
theorem roundedQuotient_div_quotientScale_le_one_iff (fmt : Fmt) {a : Nat} (ha : a ≤ 128) :
    (roundedQuotient fmt a / quotientScale fmt a : ℚ) ≤ 1 ↔ a ≤ 127 := by
  have hpos : (0 : ℚ) < quotientScale fmt a := by exact_mod_cast Nat.two_pow_pos _
  rw [div_le_one hpos, Nat.cast_le, roundedQuotient_le_quotientScale_iff fmt ha]

/-- A quotient of magnitude at most 127/127 is rounded to a value in [-1, 1] (rule R64). -/
theorem abs_valueOf_lane_le_one (fmt : Fmt) {n : SInt8} (hn : n.val.natAbs ≤ 127) :
    |valueOf fmt (lane fmt n)| ≤ 1 := by
  have hsign : |(n.val.sign : ℚ)| ≤ 1 := by
    rcases Int.sign_trichotomy n.val with h | h | h <;> simp [h]
  rw [valueOf_lane, abs_mul, abs_of_nonneg (a := (_ / _ : ℚ)) (by positivity)]
  exact mul_le_one₀ hsign (by positivity)
    ((roundedQuotient_div_quotientScale_le_one_iff fmt (SInt8.natAbs_val_le n)).mpr hn)

/-! ### A lane's result in `resp_data` -/

/-- Slice `i` of the packed results is the lane of input `i`, and of no other. -/
theorem laneSlice_pack_laneResults (fmt : Fmt) (n : Lanes SInt8) (i : Fin 4) :
    (laneResults fmt n).pack.laneSlice i = (lane fmt (n.get i)).toNat := by
  cases fmt <;>
    rw [laneResults, Results.pack, RespData.laneSlice, extractLsb'_append_lanes, Lanes.get_map]

/-- The step that answers a request of length 4 shows in slice `i` the lane of byte `i`. -/
theorem stepOf_laneSlice {fmt : Fmt} {s t : State} (h : stepOf fmt s = .next t) (hv : s.present.req.valid = true)
    (hl : s.present.req.len = 4#3) (i : Fin 4) :
    t.resp.data.laneSlice i = (lane fmt (sint8 (dataByte s.present.req.data i))).toNat := by
  obtain ⟨-, -, -, hdata⟩ := stepOf_answers h hv
  rw [hdata _ (normPort_legal hl), norm4Results, laneSlice_pack_laneResults, get_unpack4_dataBytes]

end Sys2Proof.Machine

namespace Sys2Proof.Proofs

open Sys2Proof.Machine

/-- Settles O14: -0 is not the lane of 0, and has exponent field 0, where every other lane's result is a normal number. -/
theorem zeroGivesPlusZeroOnly : Obligations.ZeroGivesPlusZeroOnly := by
  intro n
  have hne (fmt : Fmt) {w : BitVec fmt.flen} (hzero : w ≠ plusZero fmt) (hnormal : isNormal fmt w = false) :
      lane fmt n ≠ w := by
    rintro rfl
    by_cases hn : n.val = 0
    · exact hzero (lane_of_eq_zero fmt hn)
    · simp [isNormal_lane fmt hn] at hnormal
  exact ⟨fun hn => ⟨lane_of_eq_zero .b64 hn, lane_of_eq_zero .b32 hn⟩,
    hne .b64 (by decide) (by decide), hne .b32 (by decide) (by decide)⟩

/-- Settles O15: rounding carries no quotient across 1, so the magnitude is above 1 for -128 and at most 1 for every other
input. -/
theorem minusOneHundredTwentyEightIsNotClamped : Obligations.MinusOneHundredTwentyEightIsNotClamped := by
  refine fun n => ⟨fun hn => ?_, fun fmt => ⟨fun hn => ?_, fun hn => ?_⟩⟩
  · obtain rfl : n = ⟨-128, by decide⟩ := Subtype.ext hn
    decide
  · have hgt : 1 < (roundedQuotient fmt 128 / quotientScale fmt 128 : ℚ) :=
      not_le.mp fun hle => absurd ((roundedQuotient_div_quotientScale_le_one_iff fmt le_rfl).mp hle) (by decide)
    rw [valueOf_lane, hn]
    change ((-1 : ℤ) : ℚ) * (roundedQuotient fmt 128 / quotientScale fmt 128) < -1
    push_cast
    linarith
  · have := n.property
    exact abs_le.mp (abs_valueOf_lane_le_one fmt (by omega))

/-- Settles O28: a slice is the lane of the byte at its place. -/
theorem equalBytesGiveEqualLanes : Obligations.EqualBytesGiveEqualLanes := by
  intro fmt s s' t t' i j h h' hv hl hv' hl' hbyte
  calc t.resp.data.laneSlice i
      = (lane fmt (sint8 (dataByte s.present.req.data i))).toNat := stepOf_laneSlice h hv hl i
    _ = (lane fmt (sint8 (dataByte s'.present.req.data j))).toNat := by rw [dataByte, hbyte, ← dataByte]
    _ = t'.resp.data.laneSlice j := (stepOf_laneSlice h' hv' hl' j).symm

end Sys2Proof.Proofs
end

section
/-!
PROOFS. NORM4: `Norm` on buffers of either kind of length, that an instruction and a step always complete, and with which
answer (spec/43_norm4.md rules R72, R75).
-/

namespace Sys2Proof.Machine

variable {fmt : Fmt} {s : State} {d : ReqPort}

/-! ### `Norm` by the length of the buffer -/

/-- The four bytes of a buffer, lane by lane in order. -/
theorem normBuffer_four (fmt : Fmt) (b0 b1 b2 b3 : Byte) :
    normBuffer fmt [b0, b1, b2, b3] = .ok (laneResults fmt ⟨sint8 b0, sint8 b1, sint8 b2, sint8 b3⟩) := rfl

theorem normBuffer_of_length_ne_four {buf : Buffer} (h : buf.length ≠ 4) :
    normBuffer fmt buf = .err .invalidInputLength := by
  unfold normBuffer
  split
  · exact absurd rfl h
  · rfl

/-- At the ports, a buffer of four bytes is the four byte slices of `req_data`. -/
theorem normPort_eq_normBuffer (h : d.len = 4#3) :
    normPort fmt d = normBuffer fmt [d.data.extractLsb' 0 8, d.data.extractLsb' 8 8,
      d.data.extractLsb' 16 8, d.data.extractLsb' 24 8] := if_pos h

/-! ### Completion -/

/-- NORM4 responds with `Norm` of its four bytes, whatever the state. -/
theorem exec_norm4 (b0 b1 b2 b3 : Byte) (s : State) : exec (.norm4 b0 b1 b2 b3) s =
    .next (s.respond (laneResults Config.fmt ⟨sint8 b0, sint8 b1, sint8 b2, sint8 b3⟩)) := rfl

/-- No step of a build stops: a request of length 4 is answered with results, any other with the error, and without a
request the instant passes. -/
theorem exists_stepOf_eq_next (fmt : Fmt) (s : State) : ∃ t, stepOf fmt s = .next t := by
  by_cases hv : s.present.req.valid = true
  · by_cases hl : s.present.req.len = 4#3
    · exact ⟨_, cycle_legal hv hl⟩
    · exact ⟨_, cycle_illegal hv hl⟩
  · exact ⟨_, cycle_idle (Bool.eq_false_of_not_eq_true hv)⟩

/-- The step at which a request of the script is presented completes, and answers `Norm` of that request. -/
theorem exists_step_answers_normPort {rest : List ReqPort} (hscript : s.script = d :: rest) (hv : d.valid = true) :
    ∃ t, step s = .next t ∧ t.received = s.received ++ [normPort Config.fmt d] := by
  have hp : s.present.req = d := by rw [present_cons s hscript]
  obtain ⟨t, ht⟩ := exists_stepOf_eq_next Config.fmt s
  obtain ⟨hrec, -⟩ := stepOf_answers ht (hp ▸ hv)
  exact ⟨t, step_eq_stepOf ▸ ht, hp ▸ hrec⟩

end Sys2Proof.Machine

namespace Sys2Proof.Proofs

open Sys2Proof.Machine

/-- Settles O24: `Norm` is decided by the length of the buffer, NORM4 responds with it, and a step answers a presented
request with `Norm` at the ports, which its length field selects. -/
theorem norm4AnswersFourLanes : Obligations.Norm4AnswersFourLanes := by
  refine ⟨fun _ _ => normBuffer_of_length_ne_four, fun b0 b1 b2 b3 => ⟨?_, ?_⟩, fun b0 b1 b2 b3 s => ?_,
    fun s d rest hscript hv => ?_⟩
  · exact normBuffer_four .b64 b0 b1 b2 b3
  · exact normBuffer_four .b32 b0 b1 b2 b3
  · exact ⟨_, _, normBuffer_four Config.fmt b0 b1 b2 b3, exec_norm4 b0 b1 b2 b3 s, respond_resp .., respond_received ..⟩
  · obtain ⟨t, ht, hrec⟩ := exists_step_answers_normPort hscript hv
    refine ⟨t, ht, fun hlen => ?_, fun hlen => ?_⟩
    · rw [hrec, normPort_eq_normBuffer hlen]
    · rw [hrec, normPort_illegal hlen]

end Sys2Proof.Proofs
end

section
/-!
PROOFS. Which requests raise `InvalidInputLength` (spec/60_exceptions.md rule R79).
-/

namespace Sys2Proof.Machine

variable {fmt : Fmt} {s t : State}

/-- Of the three things a step can do, only the answer to a request of another length adds the error: a legal request adds
results, and an idle instant adds nothing. -/
theorem stepOf_adds_invalidInputLength_iff (h : stepOf fmt s = .next t) :
    t.received = s.received ++ [.err .invalidInputLength] ↔
      s.present.req.valid = true ∧ s.present.req.len ≠ 4#3 := by
  obtain ⟨-, hlen, rfl⟩ | ⟨hv, hlen, rfl⟩ | ⟨hv, rfl⟩ := stepOf_cases h
  · simp [hlen]
  · simp [hv, hlen]
  · simp [hv]

end Sys2Proof.Machine

namespace Sys2Proof.Proofs

open Sys2Proof.Machine

/-- Settles O31: a step leaves the request at the ports, and adds the error exactly for a request of another length. -/
theorem lengthErrorIsRaisedByNothingElse : Obligations.LengthErrorIsRaisedByNothingElse := by
  refine ⟨rfl, fun s t h => ?_⟩
  rw [step_eq_stepOf] at h
  rw [stepOf_req h]
  exact stepOf_adds_invalidInputLength_iff h

end Sys2Proof.Proofs
end

section
/-!
PROOFS. The decoder and the encoder are inverse to each other (spec/30_encoding.md sections 2 and 5), and each line a
requester can write stands for the request with its values (section 7, rule R46).
-/

namespace Sys2Proof

/-- Two requests with the same length and the same data are one request. -/
theorem eq_of_fields_eq {w w' : ReqWord} (hlen : lenField w = lenField w') (hdata : dataField w = dataField w') :
    w = w' := by
  rw [← append_fields w, ← append_fields w', hlen, hdata]

/-- The decoder gives an encoded NORM4 back. -/
theorem decode_encode (i : Instr) : decode (encode i) = .ok i := by
  obtain ⟨b0, b1, b2, b3⟩ := i
  rw [decode_legal (lenField_encode b0 b1 b2 b3), dataField_encode]
  simp only [dataByte_append]
  rfl

/-- What is left of a request after decoding is its data: the length is known. -/
theorem encode_of_decode_eq_ok {w : ReqWord} {i : Instr} (h : decode w = .ok i) : encode i = w := by
  obtain ⟨b0, b1, b2, b3⟩ := i
  have hlen : lenField w = 4#3 := (exists_decode_eq_norm4_iff w).mp ⟨b0, b1, b2, b3, h⟩
  rw [decode_legal hlen] at h
  injection h with h
  injection h with h0 h1 h2 h3
  subst h0 h1 h2 h3
  apply eq_of_fields_eq
  · rw [lenField_encode, hlen]
  · rw [dataField_encode, append_dataBytes]

/-- `NORM4 [e, a, w, f]` is the NORM4 of the four two's-complement bytes. -/
theorem decode_assemble_norm4 (e a w f : Int) : decode (Source.norm4 e a w f).assemble =
    .ok (.norm4 (BitVec.ofInt 8 e) (BitVec.ofInt 8 a) (BitVec.ofInt 8 w) (BitVec.ofInt 8 f)) := by
  rw [Source.assemble, decode_encode]

/-- `REQ len, data` is the word of the request with those fields. -/
theorem assemble_req (len data : Nat) :
    (Source.req len data).assemble = Machine.ReqPort.word ⟨true, BitVec.ofNat 3 len, BitVec.ofNat 32 data⟩ := rfl

/-- `REQ len, data` has that length, where it fits the field. -/
theorem toNat_lenField_assemble_req {len : Nat} (hlen : len < 8) (data : Nat) :
    (lenField (Source.req len data).assemble).toNat = len := by
  rw [assemble_req, Machine.lenField_word]
  exact Nat.mod_eq_of_lt hlen

/-- `REQ len, data` has those data bits, where they fit the field. -/
theorem toNat_dataField_assemble_req (len : Nat) {data : Nat} (hdata : data < 4294967296) :
    (dataField (Source.req len data).assemble).toNat = data := by
  rw [assemble_req, Machine.dataField_word]
  exact Nat.mod_eq_of_lt hdata

namespace Machine

/-- The byte that holds a signed decimal reads as that decimal. -/
theorem sint8_ofInt {n : Int} (hlo : -128 ≤ n) (hhi : n ≤ 127) : (sint8 (BitVec.ofInt 8 n)).val = n := by
  rw [sint8_eq_toInt, BitVec.toInt_ofInt_eq_self (by decide) (by omega) (by omega)]

/-- Different bytes have different readings. -/
theorem sint8_injective : Function.Injective sint8 := by
  intro b c h
  apply BitVec.eq_of_toInt_eq
  rw [← sint8_eq_toInt, ← sint8_eq_toInt, h]

end Machine
end Sys2Proof

namespace Sys2Proof.Proofs

open Sys2Proof.Machine

/-- Settles O1: the fields of an encoding are those of the instruction, and the fields of a request that decodes are those
of the encoding of what it decodes to. -/
theorem decodeAndEncodeAgree : Obligations.DecodeAndEncodeAgree :=
  ⟨fun i _ => decode_encode i, fun _ _ => encode_of_decode_eq_ok⟩

/-- Settles O5: a NORM4 line is an encoding, whose bytes read as the decimals; a REQ line is its two fields. -/
theorem requestSyntaxAssembles : Obligations.RequestSyntaxAssembles := by
  constructor
  · intro e a w f h
    simp only [Source.wellFormed, Source.decimalOk, Bool.and_eq_true, decide_eq_true_eq] at h
    obtain ⟨⟨⟨⟨he, he'⟩, ha, ha'⟩, hw, hw'⟩, hf, hf'⟩ := h
    exact ⟨_, _, _, _, decode_assemble_norm4 e a w f, sint8_ofInt he he', sint8_ofInt ha ha', sint8_ofInt hw hw',
      sint8_ofInt hf hf'⟩
  · intro len data h
    simp only [Source.wellFormed, Bool.and_eq_true, decide_eq_true_eq] at h
    obtain ⟨hlen, hdata⟩ := h
    exact ⟨toNat_lenField_assemble_req hlen data, toNat_dataField_assemble_req len hdata⟩

/-- Settles O6: six closed requests, decoded. -/
theorem wordsOfTheSpecDecode : Obligations.WordsOfTheSpecDecode := by
  refine ⟨?_, ?_, ?_, ?_, ?_, ?_⟩ <;> decide

/-- Settles O10: the byte is the two's complement of the integer, and no other byte reads the same. -/
theorem signedReadingIsABijection : Obligations.SignedReadingIsABijection := by
  intro n
  have hread : sint8 (BitVec.ofInt 8 n.val) = n := Subtype.ext (sint8_ofInt n.property.1 n.property.2)
  exact ⟨_, hread, fun b hb => sint8_injective (hb.trans hread.symm)⟩

end Sys2Proof.Proofs
end

section
/-!
PROOFS. The step: what it leaves of the request and of its buffer (spec/20_memory.md rules R20, R30), that it runs the
decoded instruction, and the invariant every step keeps (spec/30_encoding.md rules R34, R38; spec/60_exceptions.md rules
R80, R84, R95).
-/

namespace Sys2Proof.Machine

variable {fmt : Fmt} {s t : State}

/-! ### The request buffer -/

/-- Without a request the buffer has no byte. -/
theorem buffer_read_invalid {d : ReqPort} (hv : d.valid = false) (a : Nat) : d.buffer.read a = none := by
  simp [ReqPort.buffer, hv, Memory.read]

/-- A step takes the first entry off the script. -/
theorem stepOf_script (h : stepOf fmt s = .next t) : t.script = s.script.tail := by
  obtain ⟨-, -, rfl⟩ | ⟨-, -, rfl⟩ | ⟨-, rfl⟩ := stepOf_cases h
  · rw [respond_script, present_script]
  · rw [raise_script, present_script]
  · rw [idle_script, present_script]

/-! ### Width of `resp_data` and possible responses -/

/-- Four results of the lanes fill the wires of the build. -/
theorem ofBuild_pack_laneResults (fmt : Fmt) (n : Lanes SInt8) : (laneResults fmt n).pack.ofBuild fmt = true := by
  cases fmt <;> rfl

/-- A free value fills the wires of the build. -/
theorem ofBuild_draw (fmt : Fmt) (k : Nat) (w : InputWires) : (RespData.draw fmt k w).ofBuild fmt = true := by
  cases fmt <;> rfl

/-- After a step `resp_data` has the width of the build, from whatever state. -/
theorem stepOf_ofBuild (h : stepOf fmt s = .next t) : t.resp.data.ofBuild fmt = true := by
  obtain ⟨-, -, rfl⟩ | ⟨-, -, rfl⟩ | ⟨-, rfl⟩ := stepOf_cases h
  · exact ofBuild_pack_laneResults ..
  · exact ofBuild_draw ..
  · exact ofBuild_draw ..

/-- `Norm` gives possible responses only. -/
theorem possible_normPort (fmt : Fmt) (d : ReqPort) : (normPort fmt d).Possible fmt := by
  by_cases hlen : d.len = 4#3
  · rw [normPort_legal hlen]
    exact ⟨_, rfl⟩
  · rw [normPort_illegal hlen]
    rfl

/-- A response that a step adds is `Norm` of the request. -/
theorem stepOf_received_mem (h : stepOf fmt s = .next t) {r : Response} (hr : r ∈ t.received) :
    r ∈ s.received ∨ r = normPort fmt s.present.req := by
  by_cases hv : s.present.req.valid = true
  · obtain ⟨hrec, -⟩ := stepOf_answers h hv
    simpa [hrec] using hr
  · obtain ⟨hv', -⟩ | ⟨hv', -⟩ | ⟨-, rfl⟩ := stepOf_cases h
    · exact absurd hv' hv
    · exact absurd hv' hv
    · exact .inl (by simpa using hr)

/-- The invariant is kept. Only the responses had before need it of the old state. -/
theorem stepOf_inv (hinv : Inv fmt s) (h : stepOf fmt s = .next t) : Inv fmt t where
  ports := Proofs.portsAgreeAfterEveryStep fmt s t h
  width := stepOf_ofBuild h
  answers r hr := by
    obtain hold | rfl := stepOf_received_mem h hr
    · exact hinv.answers r hold
    · exact possible_normPort ..

/-- Power-up has nothing to answer. -/
theorem inv_resetOf (fmt : Fmt) : Inv fmt (State.resetOf fmt) where
  ports := ⟨rfl, fun hv => absurd hv Bool.false_ne_true⟩
  width := ofBuild_draw ..
  answers _ hr := absurd hr List.not_mem_nil

/-! ### The decoded instruction -/

/-- A presented request that decodes is run at the state in which it is presented. -/
theorem step_eq_exec {i : Instr} (hv : s.present.req.valid = true) (hi : decode s.present.req.word = .ok i) :
    step s = exec i s.present := by
  simp [step, cycle, hv, hi]

/-- An opcode-table word of at most 35 bits that reads as an instruction is a request that decodes to it. -/
theorem decode_of_decodeTableWord {w : Nat} {i : Instr} (h : decodeTableWord 40 w = some i) (hw : w < 2 ^ 35) :
    decode (BitVec.ofNat 35 w) = .ok i := by
  rw [decodeTableWord, Nat.mod_eq_of_lt (hw.trans (by decide)), if_pos hw] at h
  cases hdec : decode (BitVec.ofNat 35 w) with
  | ok j => simpa [hdec] using h
  | error e => simp [hdec] at h

/-- A placed request is presented next. -/
theorem present_withFetchWord {w : Nat} (hw : w < 2 ^ 35) : (s.withFetchWord 40 w).present =
    { s with script := s.script.tail, req := ReqPort.ofWord (BitVec.ofNat 35 w) } := by
  rw [State.withFetchWord, Nat.mod_eq_of_lt (hw.trans (by decide)), List.drop_one]
  rfl

end Sys2Proof.Machine

namespace Sys2Proof.Proofs

open Sys2Proof.Machine

/-- Settles O40: every step leads to a state whose ports agree and have the build's width, and adds a possible response if
any. -/
theorem everyStepKeepsTheInvariant : Obligations.EveryStepKeepsTheInvariant :=
  ⟨fun _ _ hinv h => stepOf_inv hinv (step_eq_stepOf ▸ h), fun _ _ _ => stepOf_inv⟩

/-- Settles O41: the reset state is the one of the build `Config.fmt`. -/
theorem invariantHoldsAtReset : Obligations.InvariantHoldsAtReset :=
  ⟨inv_resetOf Config.fmt, inv_resetOf, rfl, rfl, rfl⟩

/-- Settles O7: the buffer lists the four bytes of a presented request of length 4, and nothing in any other case. -/
theorem requestBufferHasFourOffsets : Obligations.RequestBufferHasFourOffsets := by
  refine fun s a => ⟨fun hv hlen ha => buffer_read hv hlen ⟨a, ha⟩, ?_⟩
  rintro (hv | hlen | ha)
  · exact buffer_read_invalid hv a
  · exact buffer_read_illegal hlen a
  · exact buffer_read_outside s.req ha

/-- Settles O8: the request ports stand as presented, and the buffer is a view of them. -/
theorem stepWritesNothingToTheRequest : Obligations.StepWritesNothingToTheRequest := by
  intro s t h
  rw [step_eq_stepOf] at h
  exact ⟨stepOf_req h, stepOf_script h, memRead_of_req_eq (stepOf_req h)⟩

/-- Settles O33: the next state is the presented one with the error raised. -/
theorem raisingAnErrorChangesNothingElse : Obligations.RaisingAnErrorChangesNothingElse := by
  intro s d rest t hscript hv hlen h
  have hp : s.present = { s with script := rest, req := d } := present_cons s hscript
  have ht : t = s.present.raise Config.fmt .invalidInputLength := by
    rw [step, cycle_illegal (by rwa [hp]) (by rwa [hp])] at h
    injection h with h
    exact h.symm
  have hreq : t.req = d := by rw [ht, raise_req, hp]
  refine ⟨?_, ?_, ?_, hreq, fun a => ?_, ?_, ?_, ?_⟩
  · rw [ht, raise_resp]
  · rw [ht, raise_resp]
  · rw [ht, raise_script, hp]
  · exact buffer_read_illegal (hreq ▸ hlen) a
  · rw [ht, raise_received, present_received]
  · rw [ht, raise_draws, present_draws]
  · rw [ht, raise_resp]
    exact ofBuild_draw ..

/-- Settles O37: a step of the machine is one of the build `Config.fmt`, and no step of a build stops. -/
theorem everyStepAnswersANextState : Obligations.EveryStepAnswersANextState :=
  ⟨fun s => step_eq_stepOf ▸ exists_stepOf_eq_next Config.fmt s, exists_stepOf_eq_next⟩

/-- Settles O25: NORM4 responds with the lanes of its four bytes, in either build. -/
theorem norm4CompletesWithThisState : Obligations.Norm4CompletesWithThisState :=
  ⟨exec_norm4, fun _ _ _ _ _ => rfl⟩

/-- Settles O26: responding writes the response ports and adds one response. -/
theorem norm4Frame : Obligations.Norm4Frame := by
  intro b0 b1 b2 b3 s t h
  rw [exec_norm4] at h
  injection h with h
  subst h
  refine ⟨respond_script .., respond_req .., respond_draws .., respond_memRead s _, ?_, ?_⟩
  · exact ⟨_, (respond_received ..).symm⟩
  · rw [respond_received, List.length_append, List.length_singleton]

/-- Settles O34: the first entry of the script is what is presented. -/
theorem stepRunsTheDecodedInstruction : Obligations.StepRunsTheDecodedInstruction := by
  intro s d rest i hscript hv hi
  have hp := present_cons s hscript
  rw [← hp]
  exact step_eq_exec (by rwa [hp]) (by rwa [hp])

/-- Settles O35: the placed word is the request presented next, and decodes. -/
theorem placedWordRunsNext : Obligations.PlacedWordRunsNext := by
  intro s w i hi hw
  have hp := present_withFetchWord (s := s) hw
  rw [← hp]
  apply step_eq_exec
  · rw [hp]
    rfl
  · rw [hp, ofWord_word]
    exact decode_of_decodeTableWord hi hw

/-- Settles O36: the instant is idle. -/
theorem withoutARequestNothingIsAnswered : Obligations.WithoutARequestNothingIsAnswered := fun s hv =>
  ⟨s.present.idle Config.fmt, cycle_idle hv, idle_resp_valid .., (idle_received ..).trans (present_received s),
    idle_req .., (idle_script ..).trans (present_script s)⟩

/-- Settles O38: the operations are those of the build `Config.fmt`, which is binary64. -/
theorem theMachineIsTheB64Build : Obligations.TheMachineIsTheB64Build :=
  ⟨rfl, congrFun step_eq_stepOf, congrFun₂ exec_eq_execOf, rfl⟩

end Sys2Proof.Proofs
end

section
/-!
PROOFS. Runs: what a script is answered with (spec/43_norm4.md rule R78; spec/60_exceptions.md rule R87), and buffers of any
length at the ports (spec/30_encoding.md rule R39).
-/

namespace Sys2Proof.Machine

variable {fmt : Fmt} {s t : State} {d : ReqPort} {rest : List ReqPort}

/-! ### Runs -/

/-- One presentation: `Norm` of it where it is a request, nothing where it is not. -/
theorem stepOf_received_of_script_cons (h : stepOf fmt s = .next t) (hscript : s.script = d :: rest) :
    t.received = s.received ++ answersOf fmt [d] := by
  have hp : s.present.req = d := by rw [present_cons s hscript]
  by_cases hv : d.valid = true
  · obtain ⟨hrec, -⟩ := stepOf_answers h (hp ▸ hv)
    simp [hrec, hp, answersOf, hv]
  · obtain ⟨hv', -⟩ | ⟨hv', -⟩ | ⟨-, rfl⟩ := stepOf_cases h
    · exact absurd (hp ▸ hv') hv
    · exact absurd (hp ▸ hv') hv
    · simp [answersOf, hv]

/-- The answers to a script are those to its first entry and then those to the rest. -/
theorem answersOf_cons (fmt : Fmt) (d : ReqPort) (rest : List ReqPort) :
    answersOf fmt (d :: rest) = answersOf fmt [d] ++ answersOf fmt rest := by
  cases hv : d.valid <;> simp [answersOf, hv]

/-- A run as long as the script answers the whole script and leaves none of it. -/
theorem exists_runOf_script_length (fmt : Fmt) (s : State) : ∃ t, runOf fmt s.script.length s = .next t ∧
    t.script = [] ∧ t.received = s.received ++ answersOf fmt s.script := by
  generalize hscript : s.script = script
  induction script generalizing s with
  | nil => exact ⟨s, rfl, hscript, (List.append_nil _).symm⟩
  | cons d rest ih =>
    obtain ⟨u, hu⟩ := exists_stepOf_eq_next fmt s
    have hurest : u.script = rest := by rw [stepOf_script hu, hscript, List.tail_cons]
    obtain ⟨t, hrun, hempty, hrec⟩ := ih u hurest
    refine ⟨t, ?_, hempty, ?_⟩
    · rw [List.length_cons, runOf, hu]
      exact hrun
    · rw [hrec, stepOf_received_of_script_cons hu hscript, List.append_assoc, ← answersOf_cons]

/-- What a run as long as the script has answered. -/
theorem runOf_received (hrun : runOf fmt s.script.length s = .next t) :
    t.received = s.received ++ answersOf fmt s.script := by
  obtain ⟨u, hu, -, hrec⟩ := exists_runOf_script_length fmt s
  rw [hu] at hrun
  injection hrun with hrun
  rw [← hrun, hrec]

/-! ### Buffers of any length -/

theorem toNat_lenOfBuffer (buf : Buffer) : (lenOfBuffer buf).toNat = min buf.length 7 := by
  rw [lenOfBuffer, BitVec.toNat_ofNat]
  omega

/-- Saturation turns no other length into 4. -/
theorem lenOfBuffer_eq_four_iff (buf : Buffer) : lenOfBuffer buf = 4#3 ↔ buf.length = 4 := by
  rw [← BitVec.toNat_inj, toNat_lenOfBuffer, BitVec.toNat_ofNat]
  omega

/-- A buffer at the ports is answered as the buffer itself. -/
theorem normPort_ofBuffer (fmt : Fmt) (buf : Buffer) (spare : ReqData) :
    normPort fmt (ReqPort.ofBuffer buf spare) = normBuffer fmt buf := by
  by_cases h : buf.length = 4
  · have hlen : (ReqPort.ofBuffer buf spare).len = 4#3 := (lenOfBuffer_eq_four_iff buf).mpr h
    obtain ⟨b0, b1, b2, b3, rfl⟩ := List.length_eq_four.mp h
    rw [normPort, if_pos hlen]
    simp only [dataByte_ofBuffer]
    rfl
  · have hlen : (ReqPort.ofBuffer buf spare).len ≠ 4#3 := mt (lenOfBuffer_eq_four_iff buf).mp h
    rw [normPort_illegal hlen, normBuffer_of_length_ne_four h]

end Sys2Proof.Machine

namespace Sys2Proof.Proofs

open Sys2Proof.Machine

/-- Settles O42: by induction on the script. -/
theorem runAnswersEachRequestInOrder : Obligations.RunAnswersEachRequestInOrder := exists_runOf_script_length

/-- Settles O44: both runs answer their whole scripts, which differ by the illegal request. -/
theorem errorLeavesNoTrace : Obligations.ErrorLeavesNoTrace := by
  rintro fmt s _ t t' d rest hv hlen hscript rfl h h'
  have herr : answersOf fmt [d] = [.err .invalidInputLength] := by simp [answersOf, hv, normPort_illegal hlen]
  rw [← List.length_cons (a := d), ← hscript] at h
  refine ⟨answersOf fmt rest, ?_, runOf_received h'⟩
  rw [runOf_received h, hscript, answersOf_cons, herr, List.singleton_append]

/-- Settles O29: `Norm` at the ports is `Norm` of the buffer that is presented there. -/
theorem portsAnswerAsNormOfTheBuffer : Obligations.PortsAnswerAsNormOfTheBuffer := by
  refine fun fmt buf spare rest s => ⟨toNat_lenOfBuffer buf, normBuffer_of_length_ne_four, fun hscript => ?_⟩
  have hp : s.present.req = ReqPort.ofBuffer buf spare := by rw [present_cons s hscript]
  obtain ⟨t, ht⟩ := exists_stepOf_eq_next fmt s
  obtain ⟨hrec, hvalid, hstatus, -⟩ := stepOf_answers ht (by rw [hp]; rfl)
  rw [hp, normPort_ofBuffer] at hrec hstatus
  exact ⟨t, ht, hrec, hvalid, hstatus⟩

end Sys2Proof.Proofs
end

section
/-!
PROOFS. The encoding of an integer is exact (spec/41_fdiv127.md section 2, rule R55).
-/

namespace Sys2Proof.Machine

/-- The magnitude of a signed integer with its sign in front. -/
theorem neg_one_pow_sign_mul_natAbs (n : Int) : (-1 : ℚ) ^ (if n < 0 then 1 else 0) * (n.natAbs : ℚ) = n := by
  rw [Nat.cast_natAbs]
  split_ifs with h
  · rw [abs_of_neg h]
    push_cast
    ring
  · rw [abs_of_nonneg (not_lt.mp h), pow_zero, one_mul]

/-! ### I8TOFP -/

/-- A significand has room for the 8 bits of a magnitude. -/
theorem eight_le_prec (fmt : Fmt) : 8 ≤ fmt.prec := by cases fmt <;> decide

/-- The leading 1 of `a` has weight `2^topBit a`. -/
theorem topBit_bounds {a : Nat} (hpos : 1 ≤ a) (ha : a ≤ 128) :
    topBit a ≤ 7 ∧ 2 ^ topBit a ≤ a ∧ a < 2 ^ (topBit a + 1) := by
  fun_cases topBit a <;> omega

/-- Moved up to the place of the hidden bit, an integer of at most 8 bits is a significand of exactly `P` bits. -/
theorem integerSignificand_bounds (fmt : Fmt) {a : Nat} (hpos : 1 ≤ a) (ha : a ≤ 128) :
    2 ^ (fmt.prec - 1) ≤ a * 2 ^ (fmt.prec - 1 - topBit a) ∧
      a * 2 ^ (fmt.prec - 1 - topBit a) < 2 ^ (fmt.prec - 1) + 2 ^ (fmt.prec - 1) := by
  obtain ⟨ht, hlo, hhi⟩ := topBit_bounds hpos ha
  have hsplit : 2 ^ (fmt.prec - 1) = 2 ^ topBit a * 2 ^ (fmt.prec - 1 - topBit a) := by
    rw [← pow_add]
    congr 1
    have hprec := eight_le_prec fmt
    omega
  have hunit : 0 < 2 ^ (fmt.prec - 1 - topBit a) := Nat.two_pow_pos _
  rw [hsplit, ← two_mul, ← mul_assoc, ← pow_succ']
  exact ⟨Nat.mul_le_mul_right _ hlo, Nat.mul_lt_mul_of_pos_right hhi hunit⟩

section
variable (fmt : Fmt) {sign exp frac : Nat} (hs : sign ≤ 1) (hexp : 1 ≤ exp ∧ exp ≤ 2 ^ fmt.expWidth - 2)
  (hf : frac < 2 ^ (fmt.prec - 1))
include hs hexp hf

/-- Fields with an exponent that is neither all zeros nor all ones make a normal number. -/
theorem isNormal_assemble : isNormal fmt (assemble fmt sign exp frac) = true := by
  have hlt : exp < 2 ^ fmt.expWidth := by have := Nat.two_pow_pos fmt.expWidth; omega
  rw [isNormal, expField_assemble fmt hs hlt hf, decide_eq_true hexp.1, decide_eq_true hexp.2]
  rfl

theorem valueOf_assemble : valueOf fmt (assemble fmt sign exp frac) =
    (-1) ^ sign * ((2 ^ (fmt.prec - 1) + frac : ℕ) : ℚ) * 2 ^ ((exp : ℤ) - fmt.bias - ((fmt.prec - 1 : ℕ) : ℤ)) := by
  have hlt : exp < 2 ^ fmt.expWidth := by have := Nat.two_pow_pos fmt.expWidth; omega
  rw [valueOf_normal (isNormal_assemble fmt hs hexp hf), signField_assemble fmt hs hlt hf,
    expField_assemble fmt hs hlt hf, fracField_assemble fmt hs hlt hf]

end

theorem i8tofpBits_of_eq_zero (fmt : Fmt) {n : SInt8} (hn : n.val = 0) : i8tofpBits fmt n = plusZero fmt := if_pos hn

section
variable (fmt : Fmt) {n : SInt8} (hn : n.val ≠ 0)
include hn

theorem i8tofpBits_of_ne_zero : i8tofpBits fmt n = assemble fmt (if n.val < 0 then 1 else 0)
    (topBit n.val.natAbs + fmt.bias)
    (n.val.natAbs * 2 ^ (fmt.prec - 1 - topBit n.val.natAbs) - 2 ^ (fmt.prec - 1)) :=
  if_neg hn

/-- Each of the three fits its field, and the exponent is that of a normal number. -/
theorem i8tofpBits_parts_fit : (if n.val < 0 then 1 else 0) ≤ 1 ∧
    (1 ≤ topBit n.val.natAbs + fmt.bias ∧ topBit n.val.natAbs + fmt.bias ≤ 2 ^ fmt.expWidth - 2) ∧
    n.val.natAbs * 2 ^ (fmt.prec - 1 - topBit n.val.natAbs) - 2 ^ (fmt.prec - 1) < 2 ^ (fmt.prec - 1) := by
  obtain ⟨ht, -⟩ := topBit_bounds (Int.natAbs_pos.mpr hn) (SInt8.natAbs_val_le n)
  have hsig := integerSignificand_bounds fmt (Int.natAbs_pos.mpr hn) (SInt8.natAbs_val_le n)
  refine ⟨?_, ?_, ?_⟩
  · split_ifs <;> omega
  · cases fmt <;> norm_num <;> omega
  · omega

/-- The integer of a non-zero input has an encoding as a normal number. -/
theorem isNormal_i8tofpBits : isNormal fmt (i8tofpBits fmt n) = true := by
  obtain ⟨hs, hexp, hf⟩ := i8tofpBits_parts_fit fmt hn
  rw [i8tofpBits_of_ne_zero fmt hn, isNormal_assemble fmt hs hexp hf]

/-- Moving the significand up and the exponent down is exact. -/
theorem valueOf_i8tofpBits_of_ne_zero : valueOf fmt (i8tofpBits fmt n) = n.val := by
  obtain ⟨hs, hexp, hf⟩ := i8tofpBits_parts_fit fmt hn
  obtain ⟨ht, -⟩ := topBit_bounds (Int.natAbs_pos.mpr hn) (SInt8.natAbs_val_le n)
  have hsig := integerSignificand_bounds fmt (Int.natAbs_pos.mpr hn) (SInt8.natAbs_val_le n)
  have hscale : (2 : ℚ) ^ (fmt.prec - 1 - topBit n.val.natAbs) *
      2 ^ (((topBit n.val.natAbs + fmt.bias : ℕ) : ℤ) - fmt.bias - ((fmt.prec - 1 : ℕ) : ℤ)) = 1 := by
    rw [← zpow_natCast, ← zpow_add₀ two_ne_zero, ← zpow_zero 2]
    congr 1
    have hprec := eight_le_prec fmt
    omega
  rw [i8tofpBits_of_ne_zero fmt hn, valueOf_assemble fmt hs hexp hf, Nat.add_sub_of_le hsig.1, Nat.cast_mul,
    Nat.cast_pow, Nat.cast_ofNat, ← mul_assoc, mul_assoc _ (2 ^ _), hscale, mul_one, neg_one_pow_sign_mul_natAbs]

end

end Sys2Proof.Machine

namespace Sys2Proof.Proofs

open Sys2Proof.Machine

/-- Settles O11: +0 for 0, and for another integer a normal number that is the integer, moved up to `P` bits and scaled
back. -/
theorem conversionToFloatIsExact : Obligations.ConversionToFloatIsExact := by
  intro fmt n
  by_cases hn : n.val = 0
  · have hbits : (i8tofp fmt n).bits = plusZero fmt := i8tofpBits_of_eq_zero fmt hn
    refine ⟨?_, ?_, fun _ => hbits⟩
    · rw [hbits]
      exact (strictlyNearest_zero fmt).1
    · rw [hbits, hn, valueOf, if_pos rfl, Int.cast_zero]
  · have hnormal : isNormal fmt (i8tofp fmt n).bits = true := isNormal_i8tofpBits fmt hn
    refine ⟨?_, valueOf_i8tofpBits_of_ne_zero fmt hn, fun h => absurd h hn⟩
    rw [hasValue, hnormal, Bool.or_true]

end Sys2Proof.Proofs
end

section
/-!
PROOFS. The binade of the exact quotient, and what the fields of a result say of it: the exponent, and the results of the
negated and of the doubled input (spec/41_fdiv127.md rules R58, R61, R62, R65, R70).
-/

namespace Sys2Proof.Machine

/-- `e` is the binade of the quotient `a / 127`. -/
theorem quotientExp_binade {a : Nat} (hpos : 1 ≤ a) (ha : a ≤ 128) :
    127 * (2 : ℚ) ^ quotientExp a ≤ a ∧ (a : ℚ) < 127 * 2 ^ (quotientExp a + 1) := by
  obtain ⟨hlo, hhi⟩ := mul_two_pow_neg_quotientExp_bounds hpos ha
  have hlo' : (127 : ℚ) ≤ a * 2 ^ (-quotientExp a).toNat := by exact_mod_cast hlo
  have hhi' : (a : ℚ) * 2 ^ (-quotientExp a).toNat ≤ 252 := by exact_mod_cast hhi
  have hpow : (2 : ℚ) ^ (-quotientExp a).toNat = (2 ^ quotientExp a)⁻¹ := by
    rw [← zpow_natCast, ← zpow_neg, Int.toNat_of_nonneg (by have := quotientExp_bounds a; omega)]
  have hunit : (0 : ℚ) < 2 ^ quotientExp a := by positivity
  rw [hpow, ← div_eq_mul_inv] at hlo' hhi'
  rw [le_div_iff₀ hunit] at hlo'
  rw [div_le_iff₀ hunit] at hhi'
  rw [zpow_add_one₀ two_ne_zero]
  constructor <;> linarith

/-- A magnitude lies in one binade only. -/
theorem quotientExp_eq_of_binade {a : Nat} (hpos : 1 ≤ a) (ha : a ≤ 128) {e : ℤ}
    (hlo : 127 * (2 : ℚ) ^ e ≤ a) (hhi : (a : ℚ) < 127 * 2 ^ (e + 1)) : quotientExp a = e := by
  have hlt_of_between {e f : ℤ} (h : 127 * (2 : ℚ) ^ e ≤ a) (h' : (a : ℚ) < 127 * 2 ^ (f + 1)) : e < f + 1 :=
    (zpow_lt_zpow_iff_right₀ (one_lt_two (α := ℚ))).mp (lt_of_mul_lt_mul_left (h.trans_lt h') (by norm_num))
  obtain ⟨hlo', hhi'⟩ := quotientExp_binade hpos ha
  have h1 := hlt_of_between hlo hhi'
  have h2 := hlt_of_between hlo' hhi
  omega

/-- Doubling moves the quotient up one binade. -/
theorem quotientExp_two_mul {a : Nat} (hpos : 1 ≤ a) (ha : a ≤ 64) : quotientExp (2 * a) = quotientExp a + 1 := by
  obtain ⟨hlo, hhi⟩ := quotientExp_binade hpos (by omega)
  apply quotientExp_eq_of_binade (by omega) (by omega)
  · rw [zpow_add_one₀ two_ne_zero]
    push_cast
    linarith
  · rw [zpow_add_one₀ two_ne_zero]
    push_cast
    linarith

/-- One binade up, the doubled input is scaled to the same integer. -/
theorem roundedQuotient_two_mul (fmt : Fmt) {a : Nat} (he : quotientExp (2 * a) = quotientExp a + 1) :
    roundedQuotient fmt (2 * a) = roundedQuotient fmt a := by
  have hscale : quotientScale fmt a = 2 * quotientScale fmt (2 * a) := by
    have hexp := quotientExp_bounds (2 * a)
    have hprec := one_le_prec fmt
    rw [quotientScale, quotientScale, ← pow_succ']
    congr 1
    omega
  have hscaled : scaledDividend fmt (2 * a) = scaledDividend fmt a := by
    rw [scaledDividend_eq, scaledDividend_eq, hscale]
    ring
  rw [roundedQuotient_eq, roundedQuotient_eq, hscaled]

/-- A result is made of its sign, its exponent and its rounded quotient. -/
theorem toNat_lane_of_ne_zero (fmt : Fmt) {n : SInt8} (hn : n.val ≠ 0) :
    (lane fmt n).toNat = (if n.val < 0 then 1 else 0) * 2 ^ (fmt.flen - 1) +
      (quotientExp n.val.natAbs + (fmt.bias : Int)).toNat * 2 ^ (fmt.prec - 1) +
      (roundedQuotient fmt n.val.natAbs - 2 ^ (fmt.prec - 1)) := by
  obtain ⟨hs, he, hf⟩ := lane_parts_fit fmt hn
  rw [lane_of_ne_zero fmt hn, toNat_assemble fmt hs he hf]

end Sys2Proof.Machine

namespace Sys2Proof.Proofs

open Sys2Proof.Machine

/-- Settles O16: `e` is the exponent of the reference algorithm, which is the binade of the quotient. -/
theorem nonZeroResultsAreNormalInEightBinades : Obligations.NonZeroResultsAreNormalInEightBinades := by
  intro fmt n hn
  have hpos := Int.natAbs_pos.mpr hn
  have hle := SInt8.natAbs_val_le n
  obtain ⟨hlo, hhi⟩ := quotientExp_bounds n.val.natAbs
  obtain ⟨hbinade, hbinade'⟩ := quotientExp_binade hpos hle
  obtain ⟨hsig, hsig'⟩ := roundedQuotient_bounds fmt hpos hle
  rw [Nat.cast_natAbs, Int.cast_abs] at hbinade hbinade'
  refine ⟨_, hlo, hhi, hbinade, hbinade', expField_lane fmt hn, isNormal_lane fmt hn, ?_, hsig, hsig'⟩
  rw [signField_lane fmt hn]
  split_ifs with hneg <;> simp [hneg]

/-- Settles O17: the exponent and the rounded quotient depend on the magnitude only. -/
theorem negationSetsTheSignBit : Obligations.NegationSetsTheSignBit := by
  intro fmt n m hn hm
  rw [toNat_lane_of_ne_zero fmt (n := n) (by omega), toNat_lane_of_ne_zero fmt (n := m) (by omega), hm, Int.natAbs_neg,
    if_pos (by omega), if_neg (by omega)]
  ring

/-- Settles O22: the rounded quotient, which holds the fraction, is unchanged, and the exponent of the quotient is one
higher. -/
theorem doublingKeepsTheFraction : Obligations.DoublingKeepsTheFraction := by
  intro fmt n m hn hm
  have hn0 : n.val ≠ 0 := by omega
  have hm0 : m.val ≠ 0 := by omega
  have habs : m.val.natAbs = 2 * n.val.natAbs := by omega
  have he : quotientExp (2 * n.val.natAbs) = quotientExp n.val.natAbs + 1 :=
    quotientExp_two_mul (by omega) (by omega)
  have hfrac := two_pow_add_fracField_lane fmt hm0
  have hexp := expField_lane fmt hm0
  rw [habs, roundedQuotient_two_mul fmt he, ← two_pow_add_fracField_lane fmt hn0] at hfrac
  rw [habs, he, add_right_comm, ← expField_lane fmt hn0] at hexp
  exact ⟨Nat.add_left_cancel hfrac, by exact_mod_cast hexp⟩

end Sys2Proof.Proofs
end

section
/-!
PROOFS. How far a result lies from the exact quotient, and what follows: it is the one correct rounding, in both formats
and twice over, no tie occurs, three results are exact, and the order of the inputs is kept (spec/41_fdiv127.md rules R57,
R59, R63, R69).
-/

namespace Sys2Proof.Machine

/-! ### The exact quotient -/

theorem abs_quotient (n : SInt8) : |(n.val : ℚ) / 127| = (n.val.natAbs : ℚ) / 127 := by
  rw [abs_div, Nat.cast_natAbs, Int.cast_abs, abs_of_pos (show (0 : ℚ) < 127 by norm_num)]

/-- The exact quotient reaches the lower end of its binade. -/
theorem two_pow_quotientExp_le_abs_quotient {n : SInt8} (hn : n.val ≠ 0) :
    (2 : ℚ) ^ quotientExp n.val.natAbs ≤ |(n.val : ℚ) / 127| := by
  obtain ⟨hlo, -⟩ := quotientExp_binade (Int.natAbs_pos.mpr hn) (SInt8.natAbs_val_le n)
  rw [abs_quotient, le_div_iff₀ (by norm_num)]
  linarith

/-! ### The magnitude of a result -/

theorem quotientScale_pos (fmt : Fmt) (a : Nat) : (0 : ℚ) < quotientScale fmt a := by
  exact_mod_cast Nat.two_pow_pos _

theorem abs_sign_of_ne_zero {n : SInt8} (hn : n.val ≠ 0) : |(n.val.sign : ℚ)| = 1 := by
  rw [← Int.cast_abs, Int.abs_eq_natAbs, Int.natAbs_sign_of_ne_zero hn, Nat.cast_one, Int.cast_one]

theorem abs_valueOf_lane (fmt : Fmt) {n : SInt8} (hn : n.val ≠ 0) : |valueOf fmt (lane fmt n)| =
    roundedQuotient fmt n.val.natAbs / quotientScale fmt n.val.natAbs := by
  rw [valueOf_lane, abs_mul, abs_sign_of_ne_zero hn, one_mul, abs_of_nonneg (by positivity)]

theorem valueOf_lane_of_eq_zero (fmt : Fmt) {n : SInt8} (hn : n.val = 0) : valueOf fmt (lane fmt n) = 0 := by
  rw [lane_of_eq_zero fmt hn, valueOf, if_pos rfl]

/-- Rounding stays in the binade of the quotient. -/
theorem two_pow_quotientExp_le_abs_valueOf_lane (fmt : Fmt) {n : SInt8} (hn : n.val ≠ 0) :
    (2 : ℚ) ^ quotientExp n.val.natAbs ≤ |valueOf fmt (lane fmt n)| := by
  obtain ⟨hlo, -⟩ := roundedQuotient_bounds fmt (Int.natAbs_pos.mpr hn) (SInt8.natAbs_val_le n)
  have hlo' : (2 : ℚ) ^ ((fmt.prec - 1 : ℕ) : ℤ) ≤ roundedQuotient fmt n.val.natAbs := by
    rw [zpow_natCast]
    exact_mod_cast hlo
  rw [abs_valueOf_lane fmt hn, div_eq_mul_inv, inv_quotientScale, zpow_sub₀ two_ne_zero, mul_div_left_comm]
  apply le_mul_of_one_le_right (by positivity)
  rwa [one_le_div₀ (by positivity)]

/-! ### The error of a result -/

/-- Rounding moves the quotient by at most 63 of the 127 parts of a unit: 127 is odd, so never by half a unit. -/
theorem roundedQuotient_error (fmt : Fmt) (a : Nat) :
    127 * roundedQuotient fmt a ≤ a * quotientScale fmt a + 63 ∧
      a * quotientScale fmt a ≤ 127 * roundedQuotient fmt a + 63 := by
  rw [roundedQuotient_eq, scaledDividend_eq]
  omega

/-- The difference of a result and the exact quotient, over one denominator. -/
theorem valueOf_lane_sub_quotient (fmt : Fmt) (n : SInt8) : valueOf fmt (lane fmt n) - (n.val : ℚ) / 127 =
    (n.val.sign : ℚ) * ((127 * roundedQuotient fmt n.val.natAbs - n.val.natAbs * quotientScale fmt n.val.natAbs) /
      127 / quotientScale fmt n.val.natAbs) := by
  have hscale := (quotientScale_pos fmt n.val.natAbs).ne'
  have hsign : (n.val : ℚ) = n.val.sign * n.val.natAbs := by
    rw [← Int.cast_natCast, ← Int.cast_mul, Int.sign_mul_natAbs]
  rw [valueOf_lane, hsign]
  field_simp

/-- Half a unit in the last place of a result. -/
def halfUnit (fmt : Fmt) (n : SInt8) : ℚ := 2 ^ (quotientExp n.val.natAbs - (fmt.prec : ℤ))

theorem halfUnit_pos (fmt : Fmt) (n : SInt8) : 0 < halfUnit fmt n := zpow_pos two_pos _

theorem inv_quotientScale_eq_two_mul_halfUnit (fmt : Fmt) (n : SInt8) :
    (quotientScale fmt n.val.natAbs : ℚ)⁻¹ = 2 * halfUnit fmt n := by
  have hprec := one_le_prec fmt
  rw [inv_quotientScale, halfUnit, ← zpow_one_add₀ two_ne_zero]
  congr 1
  omega

/-- A result is nearer to the exact quotient than half a unit, by one part in 127. -/
theorem abs_valueOf_lane_sub_quotient_le (fmt : Fmt) (n : SInt8) :
    |valueOf fmt (lane fmt n) - (n.val : ℚ) / 127| ≤ 126 / 127 * halfUnit fmt n := by
  have hhalf := halfUnit_pos fmt n
  by_cases hn : n.val = 0
  · rw [valueOf_lane_of_eq_zero fmt hn, hn, Int.cast_zero, zero_div, sub_zero, abs_zero]
    positivity
  · obtain ⟨hup, hdown⟩ := roundedQuotient_error fmt n.val.natAbs
    have herr : |(127 * roundedQuotient fmt n.val.natAbs - n.val.natAbs * quotientScale fmt n.val.natAbs : ℚ)| ≤ 63 := by
      have hup' : (127 * roundedQuotient fmt n.val.natAbs : ℚ) ≤
        n.val.natAbs * quotientScale fmt n.val.natAbs + 63 := by exact_mod_cast hup
      have hdown' : (n.val.natAbs * quotientScale fmt n.val.natAbs : ℚ) ≤
        127 * roundedQuotient fmt n.val.natAbs + 63 := by exact_mod_cast hdown
      rw [abs_le]
      constructor <;> linarith
    rw [valueOf_lane_sub_quotient, abs_mul, abs_sign_of_ne_zero hn, one_mul, div_eq_mul_inv _ (quotientScale _ _ : ℚ),
      inv_quotientScale_eq_two_mul_halfUnit, abs_mul, abs_div, abs_of_pos (show (0 : ℚ) < 127 by norm_num),
      abs_of_pos (show 0 < 2 * halfUnit fmt n by linarith)]
    calc _ ≤ 63 / 127 * (2 * halfUnit fmt n) := by gcongr
      _ = _ := by ring

/-! ### The correct rounding -/

/-- No value of the format is as near to the exact quotient as the lane's result. -/
theorem strictlyNearest_lane (fmt : Fmt) (n : SInt8) : StrictlyNearest fmt ((n.val : ℚ) / 127) (lane fmt n) := by
  by_cases hn : n.val = 0
  · rw [lane_of_eq_zero fmt hn, hn, Int.cast_zero, zero_div]
    exact strictlyNearest_zero fmt
  · apply strictlyNearest_of_half_unit (isNormal_lane fmt hn) (expField_lane fmt hn)
      (two_pow_quotientExp_le_abs_quotient hn)
    have hhalf := halfUnit_pos fmt n
    calc _ ≤ 126 / 127 * halfUnit fmt n := abs_valueOf_lane_sub_quotient_le fmt n
      _ < halfUnit fmt n := by linarith

/-- Half a unit of binary64 is 2^29 times smaller than one of binary32. -/
theorem halfUnit_b64 (n : SInt8) : halfUnit .b64 n = halfUnit .b32 n / 2 ^ 29 := by
  rw [halfUnit, halfUnit, ← zpow_natCast, ← zpow_sub₀ two_ne_zero]
  congr 1
  norm_num
  ring

/-- No value of binary32 is as near to the binary64 result as the binary32 result: the part in 127 that is left of half a
unit has room for the error of binary64. -/
theorem strictlyNearest_lane_b32_of_b64 (n : SInt8) :
    StrictlyNearest .b32 (valueOf .b64 (lane .b64 n)) (lane .b32 n) := by
  by_cases hn : n.val = 0
  · rw [lane_of_eq_zero .b32 hn, valueOf_lane_of_eq_zero .b64 hn]
    exact strictlyNearest_zero .b32
  · apply strictlyNearest_of_half_unit (isNormal_lane .b32 hn) (expField_lane .b32 hn)
      (two_pow_quotientExp_le_abs_valueOf_lane .b64 hn)
    have h32 := abs_valueOf_lane_sub_quotient_le .b32 n
    have h64 := abs_valueOf_lane_sub_quotient_le .b64 n
    rw [halfUnit_b64] at h64
    rw [abs_sub_comm] at h64
    have hhalf := halfUnit_pos .b32 n
    calc _ ≤ _ := abs_sub_le _ ((n.val : ℚ) / 127) _
      _ ≤ 126 / 127 * halfUnit .b32 n + 126 / 127 * (halfUnit .b32 n / 2 ^ 29) := add_le_add h32 h64
      _ < halfUnit .b32 n := by linarith

/-! ### Exact results and order -/

/-- A result is exact where its integers are. -/
theorem valueOf_lane_eq_quotient_iff_scaledDividend (fmt : Fmt) {n : SInt8} (hn : n.val ≠ 0) :
    valueOf fmt (lane fmt n) = (n.val : ℚ) / 127 ↔
      127 * roundedQuotient fmt n.val.natAbs = scaledDividend fmt n.val.natAbs := by
  have hsign : (n.val.sign : ℚ) ≠ 0 := by simpa using hn
  rw [← sub_eq_zero, valueOf_lane_sub_quotient, mul_eq_zero, or_iff_right hsign, div_eq_zero_iff,
    or_iff_left (quotientScale_pos fmt _).ne', div_eq_zero_iff, or_iff_left (by norm_num), sub_eq_zero,
    scaledDividend_eq]
  norm_cast

/-- A result is exact where the division has no remainder: the scale is a power of two. -/
theorem valueOf_lane_eq_quotient_iff (fmt : Fmt) (n : SInt8) :
    valueOf fmt (lane fmt n) = (n.val : ℚ) / 127 ↔ 127 ∣ n.val.natAbs := by
  by_cases hn : n.val = 0
  · simp [valueOf_lane_of_eq_zero fmt hn, hn]
  · have hcoprime : Nat.Coprime 127 (quotientScale fmt n.val.natAbs) := Nat.Coprime.pow_right _ (by decide)
    have herr := roundedQuotient_error fmt n.val.natAbs
    rw [valueOf_lane_eq_quotient_iff_scaledDividend fmt hn, scaledDividend_eq, ← hcoprime.dvd_mul_right]
    omega

/-- Results err by less than half the distance of two quotients, so they keep their order. -/
theorem strictMono_valueOf_lane (fmt : Fmt) : StrictMono fun n : SInt8 => valueOf fmt (lane fmt n) := by
  intro m n h
  have herr (k : SInt8) : |valueOf fmt (lane fmt k) - (k.val : ℚ) / 127| < 1 / 254 := by
    have hhalf : halfUnit fmt k ≤ 2 ^ (-8 : ℤ) := by
      apply zpow_le_zpow_right₀ one_le_two
      have he := quotientExp_bounds k.val.natAbs
      have hprec := eight_le_prec fmt
      omega
    have hle := abs_valueOf_lane_sub_quotient_le fmt k
    norm_num at hhalf
    linarith
  obtain ⟨-, hm⟩ := abs_lt.mp (herr m)
  obtain ⟨hn, -⟩ := abs_lt.mp (herr n)
  have hle : (m.val : ℚ) + 1 ≤ n.val := by exact_mod_cast Int.add_one_le_of_lt h
  dsimp only
  linarith

/-- A value taken exactly at an input is taken there only. -/
theorem valueOf_lane_eq_iff_of_exact {fmt : Fmt} {k : SInt8} (hk : 127 ∣ k.val.natAbs) {v : ℚ}
    (hv : v = (k.val : ℚ) / 127) (n : SInt8) : valueOf fmt (lane fmt n) = v ↔ n.val = k.val := by
  rw [hv, ← (valueOf_lane_eq_quotient_iff fmt k).mpr hk, (strictMono_valueOf_lane fmt).injective.eq_iff, Subtype.ext_iff]

end Sys2Proof.Machine

namespace Sys2Proof.Proofs

open Sys2Proof.Machine

/-- Settles O12: the lane is strictly nearest to the quotient, so it is the one rounding. -/
theorem laneIsTheQuotientRoundedToNearest : Obligations.LaneIsTheQuotientRoundedToNearest :=
  fun fmt n => ⟨rfl, (strictlyNearest_lane fmt n).roundsTo_iff⟩

/-- Settles O13: the lane is strictly nearer than either of two values that are equally near. -/
theorem noQuotientIsATie : Obligations.NoQuotientIsATie := by
  intro fmt n v w hv hw hne heq
  obtain ⟨hlane, hnearest⟩ := strictlyNearest_lane fmt n
  refine ⟨lane fmt n, hlane, hnearest v hv ?_⟩
  rintro rfl
  exact (hnearest w hw hne.symm).ne heq

/-- Settles O18: 127 divides no other magnitude up to 128, and 1 and -1 are exact at 127 and -127. -/
theorem exactlyThreeInputsAreExact : Obligations.ExactlyThreeInputsAreExact := by
  intro fmt n
  refine ⟨?_, valueOf_lane_eq_iff_of_exact (k := ⟨127, by decide⟩) (by decide) (by norm_num) n,
    valueOf_lane_eq_iff_of_exact (k := ⟨-127, by decide⟩) (by decide) (by norm_num) n⟩
  have := n.property
  rw [valueOf_lane_eq_quotient_iff]
  omega

/-- Settles O19: half a unit is `2^e` over `2^P`, and `2^e` is at most the quotient. -/
theorem errorIsAtMostHalfAUnit : Obligations.ErrorIsAtMostHalfAUnit := by
  intro fmt n
  by_cases hn : n.val = 0
  · simp [valueOf_lane_of_eq_zero fmt hn, hn]
  · have hhalf := halfUnit_pos fmt n
    calc |valueOf fmt (lane fmt n) - (n.val : ℚ) / 127|
        ≤ 126 / 127 * halfUnit fmt n := abs_valueOf_lane_sub_quotient_le fmt n
      _ ≤ halfUnit fmt n := by linarith
      _ = 2 ^ quotientExp n.val.natAbs / 2 ^ fmt.prec := by rw [halfUnit, zpow_sub₀ two_ne_zero, zpow_natCast]
      _ ≤ |(n.val : ℚ) / 127| / 2 ^ fmt.prec := by
        gcongr
        exact two_pow_quotientExp_le_abs_quotient hn

/-- Settles O20: results keep the order of the quotients. -/
theorem laneIsStrictlyIncreasing : Obligations.LaneIsStrictlyIncreasing :=
  fun fmt _ _ h => strictMono_valueOf_lane fmt h

/-- Settles O21: the binary32 result is strictly nearest to the binary64 result, so it is its one rounding. -/
theorem singleIsTheDoubleResultRounded : Obligations.SingleIsTheDoubleResultRounded :=
  fun n => (strictlyNearest_lane_b32_of_b64 n).roundsTo_iff

end Sys2Proof.Proofs
end

section
/-!
PROOFS. The table of spec/42_fdiv127_table.md, row by row, is what the reference algorithm gives (rule R71).
-/

namespace Sys2Proof.Machine

/-- Which way a result was rounded, by the integers of the reference algorithm: 127 rounded quotients against the scaled
dividend. -/
def roundingOf (fmt : Fmt) (n : SInt8) : Rounding :=
  if n.val = 0 then .none
  else if 127 * roundedQuotient fmt n.val.natAbs < scaledDividend fmt n.val.natAbs then .down
  else if scaledDividend fmt n.val.natAbs < 127 * roundedQuotient fmt n.val.natAbs then .up
  else .exact

/-- The row that the reference algorithm gives for an input. -/
def tableRowOf (n : SInt8) : TableRow where
  n := n.val
  byte := BitVec.ofInt 8 n.val
  e := if n.val = 0 then none else some (quotientExp n.val.natAbs)
  b64 := lane .b64 n
  r64 := roundingOf .b64 n
  b32 := lane .b32 n
  r32 := roundingOf .b32 n

/-- The spec's 256 rows, evaluated. -/
theorem laneTable_eq_ofFn : laneTable = List.ofFn fun k => tableRowOf (SInt8.ofFin k) := by decide +kernel

theorem tableRowOf_mem_laneTable (n : SInt8) : tableRowOf n ∈ laneTable := by
  revert n
  rw [laneTable_eq_ofFn, forall_sint8]
  exact fun k => List.mem_ofFn.mpr ⟨k, rfl⟩

theorem bits_tableRowOf (fmt : Fmt) (n : SInt8) : (tableRowOf n).bits fmt = lane fmt n := by cases fmt <;> rfl

theorem rounding_tableRowOf (fmt : Fmt) (n : SInt8) : (tableRowOf n).rounding fmt = roundingOf fmt n := by
  cases fmt <;> rfl

/-- The integers of the reference algorithm tell on which side of the exact quotient a result lies. -/
theorem abs_valueOf_lane_lt_abs_quotient_iff (fmt : Fmt) {n : SInt8} (hn : n.val ≠ 0) :
    |valueOf fmt (lane fmt n)| < |(n.val : ℚ) / 127| ↔
      127 * roundedQuotient fmt n.val.natAbs < scaledDividend fmt n.val.natAbs := by
  rw [abs_valueOf_lane fmt hn, abs_quotient, div_lt_div_iff₀ (quotientScale_pos fmt _) (by norm_num), scaledDividend_eq,
    mul_comm 127]
  exact_mod_cast Iff.rfl

theorem abs_quotient_lt_abs_valueOf_lane_iff (fmt : Fmt) {n : SInt8} (hn : n.val ≠ 0) :
    |(n.val : ℚ) / 127| < |valueOf fmt (lane fmt n)| ↔
      scaledDividend fmt n.val.natAbs < 127 * roundedQuotient fmt n.val.natAbs := by
  rw [abs_valueOf_lane fmt hn, abs_quotient, div_lt_div_iff₀ (by norm_num) (quotientScale_pos fmt _), scaledDividend_eq,
    mul_comm 127]
  exact_mod_cast Iff.rfl

/-- The rounding of the reference algorithm is the one the table's words describe. -/
theorem roundingOf_holds (fmt : Fmt) (n : SInt8) :
    (roundingOf fmt n).Holds ((n.val : ℚ) / 127) (valueOf fmt (lane fmt n)) := by
  unfold roundingOf
  split_ifs with hn hdown hup
  · exact valueOf_lane_of_eq_zero fmt hn
  · exact (abs_valueOf_lane_lt_abs_quotient_iff fmt hn).mpr hdown
  · exact (abs_quotient_lt_abs_valueOf_lane_iff fmt hn).mpr hup
  · have hexact := (valueOf_lane_eq_quotient_iff_scaledDividend fmt hn).mpr (by omega)
    have hpos : 0 < |valueOf fmt (lane fmt n)| :=
      (zpow_pos two_pos _).trans_le (two_pow_quotientExp_le_abs_valueOf_lane fmt hn)
    exact ⟨hexact, abs_pos.mp hpos⟩

end Sys2Proof.Machine

namespace Sys2Proof.Proofs

open Sys2Proof.Machine

/-- Settles O23: the row of the reference algorithm stands in the table. -/
theorem tableOfRuleR71IsTheLane : Obligations.TableOfRuleR71IsTheLane := by
  refine ⟨by rw [laneTable_eq_ofFn, List.length_ofFn], fun n => ⟨tableRowOf n, tableRowOf_mem_laneTable n, rfl, ?_, rfl,
    fun fmt => ⟨bits_tableRowOf fmt n, ?_⟩⟩⟩
  · exact Subtype.ext (sint8_ofInt n.property.1 n.property.2)
  · rw [rounding_tableRowOf]
    exact roundingOf_holds fmt n

end Sys2Proof.Proofs
end
